-- ==== Sys2Proof/Word.lean ====
section
/-! DEFINITION. The word types of the telescope CORE block. -/

namespace Sys2Proof

/-- A command word CW, 64 bits (`30_encoding.md` R80). -/
abbrev Word := BitVec 64

/-- One byte: the OPC, RSV, A and B fields (`30_encoding.md` R80) and the row byte (`41_diff_engine.md` R136). -/
abbrev Byte := BitVec 8

/-- A register value, an IMM field or a RESULT, 32 bits (`10_state.md` R21, `45_register_access.md` R250). -/
abbrev Word32 := BitVec 32

/-- A sample, unsigned 16 bits (`00_scope.md` R11). -/
abbrev Sample := BitVec 16

/-- A pixel column or an OPS mask: bit r is row r (`10_state.md` R22, `20_memory.md` R64). -/
abbrev Column := BitVec 64

/-- A ring index register, 24 bits (`10_state.md` R26, R34). -/
abbrev RingIndex := BitVec 24

/-- A bus-event word, 16 bits (`30_encoding.md` R95). -/
abbrev EventWord := BitVec 16

end Sys2Proof
end

