-- ==== Sys2Proof/Config.lean ====
section
/-! DEFINITION. The configuration of the block (`00_scope.md` R7, R8, R10): parameters fixed for the life of the block.
The types hold exactly the legal configurations, so that an illegal one "does not exist" (`93_implementation_defined.md`
section 2); `Sys2Proof/Machine/Parameters.lean` reads the parameters out as numbers and builds a configuration from
numbers, refusing the illegal ones. -/

namespace Sys2Proof

/-- ZOOM_MODE with its MAX_ZOOM. Each number held is the parameter less one: MAX_ZOOM is 1 to 255 in UNSIGNED mode and
1 to 13 in SIGNED mode (`00_scope.md` R7, R8, R10). -/
inductive ZoomMode where
  | unsigned (maxLess1 : Fin 255)
  | signed (maxLess1 : Fin 13)
deriving DecidableEq, Repr

/-- CLEAR_POLICY (`00_scope.md` R8). -/
inductive ClearPolicy where
  | carry
  | clearOnSwap
deriving DecidableEq, Repr

/-- MIRROR (`00_scope.md` R8). -/
inductive MirrorPolicy where
  | off
  | on
deriving DecidableEq, Repr

/-- SCHED_MODE (`00_scope.md` R8). -/
inductive SchedMode where
  | singleTimer
  | dualTimer
deriving DecidableEq, Repr

/-- OFFSET_POLICY (`00_scope.md` R8). -/
inductive OffsetPolicy where
  | frameRelative
  | continuous
deriving DecidableEq, Repr

/-- COLS_PER_TICK (`00_scope.md` R8). -/
inductive ColsPerTick where
  | one
  | two
deriving DecidableEq, Repr

/-- The configuration parameters (`00_scope.md` R7, R8). A field named `…Less1` holds the parameter less one, so that
its type holds exactly the legal range 1 to 255 or 1 to 65535. -/
structure Config where
  zoomMode : ZoomMode
  minZoomLess1 : Fin 255
  divisorLess1 : Fin 255
  rowScaleLess1 : Fin 65535
  tickSamplesLess1 : Fin 65535
  clearPolicy : ClearPolicy
  mirror : MirrorPolicy
  schedMode : SchedMode
  offsetPolicy : OffsetPolicy
  colsPerTick : ColsPerTick
deriving DecidableEq, Repr

/-- MAX_ZOOM less one of the block at `State.reset`. DESIGN CHOICE (log 3): the spec leaves it OPEN, so it has no body. -/
opaque Config.openMaxZoomLess1 : Fin 255

/-- MIN_ZOOM less one of the block at `State.reset`. DESIGN CHOICE (log 3): OPEN in the spec, no body. -/
opaque Config.openMinZoomLess1 : Fin 255

/-- DIVISOR less one of the block at `State.reset`. DESIGN CHOICE (log 3): OPEN in the spec, no body. -/
opaque Config.openDivisorLess1 : Fin 255

/-- ROW_SCALE less one of the block at `State.reset`. DESIGN CHOICE (log 3): OPEN in the spec, no body. -/
opaque Config.openRowScaleLess1 : Fin 65535

/-- TICK_SAMPLES less one of the block at `State.reset`. DESIGN CHOICE (log 3): OPEN in the spec, no body. -/
opaque Config.openTickSamplesLess1 : Fin 65535

/-- The configuration of `State.reset`: the policies at the defaults of `00_scope.md` R8, the numeric parameters open. -/
def Config.atReset : Config where
  zoomMode := .unsigned Config.openMaxZoomLess1
  minZoomLess1 := Config.openMinZoomLess1
  divisorLess1 := Config.openDivisorLess1
  rowScaleLess1 := Config.openRowScaleLess1
  tickSamplesLess1 := Config.openTickSamplesLess1
  clearPolicy := .clearOnSwap
  mirror := .off
  schedMode := .dualTimer
  offsetPolicy := .frameRelative
  colsPerTick := .two

end Sys2Proof
end

