-- ==== Sys2Proof/Machine/State.lean ====
section
/-! DEFINITION. The state of the block (`10_state.md` R20 to R47), its reset, and the ways a step can stop. -/

namespace Sys2Proof.Machine

open Sys2Proof

/-- A physical pixel buffer: 128 columns (`10_state.md` R22). -/
abbrev PixBuf := Vector Column 128

/-- The ring memory (`10_state.md` R25): (index, sample) cells, indices strictly rising, no listed sample equal to what
an unlisted index reads as. The unit is the u16 sample: the block has no byte-addressed memory (`20_memory.md` R60). -/
abbrev Memory := List (Nat × Sample)

/-- The ColumnOperations masks EL, WL, ER, WR (`10_state.md` R24). -/
structure ColumnOperations where
  el : Column
  wl : Column
  er : Column
  wr : Column
deriving DecidableEq, Repr

/-- SCHED_STATE (`10_state.md` R35): values 5 to 7 are never held. -/
inductive SchedState where
  | idle
  | frameStart
  | columnFill
  | swathFlush
  | frameDone
deriving DecidableEq, Repr

/-- FLUSH_PHASE (`10_state.md` R39). -/
inductive FlushPhase where
  | diff
  | busCmd
  | busSelCol
  | rowCmd
  | rowSel
  | rowDph
  | rowWr
  | busEnd
deriving DecidableEq, Repr

/-- FAULT_INFO (`10_state.md` R28): CODE 0 means no fault recorded. -/
structure FaultInfo where
  code : Byte
  opc : Byte
  a : Byte
deriving DecidableEq, Repr

/-- What arrives at the block next (`00_scope.md` R12): a command word on the command port, a turn of the RENDER agent,
or reset. The list of them in `State.pending` is the interleaving of the run (log 1). -/
inductive PortEvent where
  /-- The HOST issues this command word. -/
  | command (cw : Word)
  /-- The RENDER agent moves before the next command. -/
  | renderTurn
  /-- Reset (`70_reset_and_hazards.md` R290). -/
  | reset
deriving DecidableEq, Repr

/-- The state of the block: the closed list of `10_state.md` R20, and two fields of the model's own, `cfg` and
`pending`. -/
structure State where
  /-- The configuration: fixed for the life of the block, written by no step (R20; log 2). -/
  cfg : Config
  /-- Physical pixel buffer P0 (R22). -/
  p0 : PixBuf
  /-- Physical pixel buffer P1 (R22). -/
  p1 : PixBuf
  /-- SHADOW_SEL: false when P0 is the shadow, true when P1 is (R23). -/
  shadowSel : Bool
  /-- OPS, the four masks (R24). -/
  ops : ColumnOperations
  /-- OPS_LEFT (R24). -/
  opsLeft : BitVec 7
  /-- RING (R25). -/
  ring : Memory
  /-- CURSOR (R26). -/
  cursor : RingIndex
  /-- STATUS bit 16 (R27). -/
  errIllegal : Bool
  /-- STATUS bit 17 (R27). -/
  errRange : Bool
  /-- STATUS bit 18 (R27). -/
  errBusy : Bool
  /-- FAULT_INFO (R28). -/
  faultInfo : FaultInfo
  /-- CTRL bit 0, SCHED_EN; the other bits are reserved and hold nothing (R29). -/
  schedEn : Bool
  /-- ZOOM, two's complement (R32). -/
  zoom : Word32
  /-- FZOOM, two's complement (R33). -/
  fzoom : Word32
  /-- BASE (R34). -/
  base : RingIndex
  /-- SCHED_STATE (R35). -/
  schedState : SchedState
  /-- SCHED_COL (R36). -/
  schedCol : BitVec 8
  /-- TICK_LEFT (R37). -/
  tickLeft : BitVec 2
  /-- TICKCNT (R38). -/
  tickcnt : BitVec 16
  /-- FLUSH_PHASE (R39). -/
  flushPhase : FlushPhase
  /-- FLUSH_ROW (R39). -/
  flushRow : BitVec 7
  /-- RENDER_ACTIVE (R40). -/
  renderActive : Bool
  /-- RENDER_REQ (R40). -/
  renderReq : Bool
  /-- RIP (R41). -/
  rip : Bool
  /-- ABORT (R41). -/
  abort : Bool
  /-- RESULT (R21). -/
  result : Word32
  /-- BUSLOG, oldest event first (R42). -/
  buslog : List EventWord
  /-- What arrives at the block, next first (the model's own field; log 1). -/
  pending : List PortEvent
deriving DecidableEq, Repr

/-- Why the machine stops. The faults of `60_exceptions.md` R260 are not among them: those leave a record and the block
goes on (R263; log 5). -/
inductive Fault where
  /-- Raised by `step` on a turn of the RENDER agent with RENDER_ACTIVE = 1 and SCHED_STATE = IDLE, a micro-state for
  which `44_render_scheduler.md` R203 has no line and which no run reaches. Safe (log 7). -/
  | renderStuck
deriving DecidableEq, Repr

/-- Why the model gives no meaning. -/
inductive Refusal where
  /-- Raised by an arm of `exec` whose command has no meaning yet; no arm is left so. Safe. -/
  | notModelled (mnemonic : String)
  /-- Raised by `buildBlock` for parameters outside the legal values (`93_implementation_defined.md` section 2). Safe
  (log 4). -/
  | illegalConfiguration
deriving DecidableEq, Repr

/-- A buffer with every pixel clear (`10_state.md` R22). -/
def PixBuf.blank : PixBuf := Vector.replicate 128 0#64

/-- The blank masks (`10_state.md` R24, `41_diff_engine.md` R133). -/
def ColumnOperations.blank : ColumnOperations := ⟨0#64, 0#64, 0#64, 0#64⟩

/-- The state after reset of a block with configuration `c` (`10_state.md` R47, `70_reset_and_hazards.md` R290),
`pending` being what arrives after it. -/
def State.resetWith (c : Config) (pending : List PortEvent) : State where
  cfg := c
  p0 := PixBuf.blank
  p1 := PixBuf.blank
  shadowSel := false
  ops := ColumnOperations.blank
  opsLeft := 0#7
  ring := []
  cursor := 0#24
  errIllegal := false
  errRange := false
  errBusy := false
  faultInfo := ⟨0#8, 0#8, 0#8⟩
  schedEn := true
  zoom := 1#32
  fzoom := 1#32
  base := 0#24
  schedState := .idle
  schedCol := 0#8
  tickLeft := 0#2
  tickcnt := 0#16
  flushPhase := .diff
  flushRow := 0#7
  renderActive := false
  renderReq := false
  rip := false
  abort := false
  result := 0#32
  buslog := []
  pending := pending

/-- The machine right after reset (`10_state.md` R47), nothing pending. The numeric parameters, OPEN in the spec, are
opaque (DESIGN CHOICE, log 3). -/
def State.reset : State := State.resetWith Config.atReset []

end Sys2Proof.Machine
end

