-- ==== Sys2Proof/Machine/Parameters.lean ====
section
/-! DEFINITION. The configuration parameters as numbers, the derived capacity, and the building of a block
(`00_scope.md` R7 to R10, `93_implementation_defined.md` section 2). -/

namespace Sys2Proof.Machine

open Sys2Proof

/-- COLS (`00_scope.md` R6). -/
def numCols : Nat := 128

/-- ROWS (`00_scope.md` R6). -/
def numRows : Nat := 64

/-- MAX_ZOOM (`00_scope.md` R7). -/
def maxZoomOf (c : Config) : Nat :=
  match c.zoomMode with
  | .unsigned m => m.val + 1
  | .signed m => m.val + 1

/-- Whether ZOOM_MODE = SIGNED (`00_scope.md` R8). -/
def signedZoom (c : Config) : Bool :=
  match c.zoomMode with
  | .unsigned _ => false
  | .signed _ => true

/-- MIN_ZOOM (`00_scope.md` R7). -/
def minZoomOf (c : Config) : Nat := c.minZoomLess1.val + 1

/-- DIVISOR (`00_scope.md` R7). -/
def divisorOf (c : Config) : Nat := c.divisorLess1.val + 1

/-- ROW_SCALE (`00_scope.md` R7). -/
def rowScaleOf (c : Config) : Nat := c.rowScaleLess1.val + 1

/-- TICK_SAMPLES (`00_scope.md` R7). -/
def tickSamplesOf (c : Config) : Nat := c.tickSamplesLess1.val + 1

/-- COLS_PER_TICK (`00_scope.md` R8). -/
def colsPerTickOf (c : Config) : Nat :=
  match c.colsPerTick with
  | .one => 1
  | .two => 2

/-- ZMAX (`00_scope.md` R9). -/
def zMaxOf (c : Config) : Nat := if signedZoom c then max (maxZoomOf c) (minZoomOf c) else maxZoomOf c

/-- CAPACITY = COLS * D * ZMAX (`00_scope.md` R9). -/
def capacityOf (c : Config) : Nat := numCols * divisorOf c * zMaxOf c

/-- The parameters of a block about to be built, as plain numbers. -/
structure Params where
  signed : Bool
  maxZoom : Nat
  minZoom : Nat
  divisor : Nat
  rowScale : Nat
  tickSamples : Nat
  colsPerTick : Nat
  clearPolicy : ClearPolicy
  mirror : MirrorPolicy
  schedMode : SchedMode
  offsetPolicy : OffsetPolicy
deriving DecidableEq, Repr

/-- The legal values of `00_scope.md` R7, R8 and R10. -/
def paramsLegal (p : Params) : Bool :=
  decide (1 ≤ p.maxZoom) && decide (p.maxZoom ≤ 255) && (!p.signed || decide (p.maxZoom ≤ 13)) &&
    decide (1 ≤ p.minZoom) && decide (p.minZoom ≤ 255) &&
    decide (1 ≤ p.divisor) && decide (p.divisor ≤ 255) &&
    decide (1 ≤ p.rowScale) && decide (p.rowScale ≤ 65535) &&
    decide (1 ≤ p.tickSamples) && decide (p.tickSamples ≤ 65535) &&
    (decide (p.colsPerTick = 1) || decide (p.colsPerTick = 2))

/-- The configuration of legal parameters. -/
def configOf (p : Params) : Config where
  zoomMode := if p.signed then .signed (Fin.ofNat 13 (p.maxZoom - 1)) else .unsigned (Fin.ofNat 255 (p.maxZoom - 1))
  minZoomLess1 := Fin.ofNat 255 (p.minZoom - 1)
  divisorLess1 := Fin.ofNat 255 (p.divisor - 1)
  rowScaleLess1 := Fin.ofNat 65535 (p.rowScale - 1)
  tickSamplesLess1 := Fin.ofNat 65535 (p.tickSamples - 1)
  clearPolicy := p.clearPolicy
  mirror := p.mirror
  schedMode := p.schedMode
  offsetPolicy := p.offsetPolicy
  colsPerTick := if p.colsPerTick = 1 then .one else .two

/-- Building and resetting a block (`70_reset_and_hazards.md` R293, R294): a model "must reject" illegal values "when the
block is built" (`93_implementation_defined.md` section 2). -/
def buildBlock (p : Params) (pending : List PortEvent) : Host.Outcome State Fault Refusal :=
  if paramsLegal p then .next (State.resetWith (configOf p) pending) else .refused .illegalConfiguration

end Sys2Proof.Machine
end

