-- ==== Sys2Proof/Machine/Operands.lean ====
section
/-! DEFINITION. How operands are read (`30_encoding.md` R82) and the ranges the commands' own rules check
(`60_exceptions.md` R260). -/

namespace Sys2Proof.Machine

open Sys2Proof

/-- The two's-complement s32 reading of a 32-bit field or register (`30_encoding.md` R82). -/
def s32 (v : Word32) : Int := v.toInt

/-- A signed result as its two's-complement u32 pattern (`30_encoding.md` R87). -/
def u32OfInt (x : Int) : Word32 := BitVec.ofInt 32 x

/-- A sample in a 32-bit result, zero-extended (`30_encoding.md` R83). -/
def u32OfSample (v : Sample) : Word32 := v.zeroExtend 32

/-- A one-bit result (`30_encoding.md` R83). -/
def u32OfBit (b : Bool) : Word32 := if b then 1#32 else 0#32

/-- A column and row in the pixel space, else RANGE (`40_pixel_plane.md` R110). -/
def coordInRange (col row : Byte) : Bool := decide (col.toNat < numCols) && decide (row.toNat < numRows)

/-- A column, else RANGE (`43_zoom_resampler.md` R185). -/
def colInRange (col : Byte) : Bool := decide (col.toNat < numCols)

/-- A swath's left column: even and at most 126, else RANGE (`41_diff_engine.md` R132). -/
def leftColInRange (l : Byte) : Bool := decide (l.toNat ≤ 126) && decide (l.toNat % 2 = 0)

end Sys2Proof.Machine
end

