-- ==== Sys2Proof/Syntax.lean ====
section
/-! DEFINITION. The sixteen commands of the command port (`30_encoding.md` R81, R83), operands at the width of the
field that carries them. -/

namespace Sys2Proof

/-- One constructor per row of the opcode map (`30_encoding.md` R83). -/
inductive Instr where
  /-- RING_PUSH sample (`42_sample_ring.md` R162). -/
  | ringPush (sample : Sample)
  /-- RING_AT offset, the offset an s32 (`42_sample_ring.md` R163). -/
  | ringAt (offset : Word32)
  /-- PX_PEEK col, row (`40_pixel_plane.md` R110). -/
  | pxPeek (col row : Byte)
  /-- PX_POKE col, row, value (`40_pixel_plane.md` R111). -/
  | pxPoke (col row : Byte) (value : Bool)
  /-- PX_CLEAR (`40_pixel_plane.md` R112). -/
  | pxClear
  /-- PX_SWAP (`40_pixel_plane.md` R113). -/
  | pxSwap
  /-- PX_PEEK_LIVE col, row (`40_pixel_plane.md` R114). -/
  | pxPeekLive (col row : Byte)
  /-- DIFF_SWATH leftCol (`41_diff_engine.md` R132). -/
  | diffSwath (leftCol : Byte)
  /-- OPS_ISBLANK (`41_diff_engine.md` R134). -/
  | opsIsBlank
  /-- SWATH_RENDER (`41_diff_engine.md` R139). -/
  | swathRender
  /-- ZOOM_SET factor, the factor an s32 (`43_zoom_resampler.md` R181). -/
  | zoomSet (factor : Word32)
  /-- ZOOM_OFFSET col (`43_zoom_resampler.md` R185). -/
  | zoomOffset (col : Byte)
  /-- ACQ_SAMPLE sample (`44_render_scheduler.md` R219). -/
  | acqSample (sample : Sample)
  /-- RENDER_TICK (`44_render_scheduler.md` R221). -/
  | renderTick
  /-- REG_READ reg (`45_register_access.md` R251). -/
  | regRead (reg : Byte)
  /-- REG_WRITE reg, value (`45_register_access.md` R252). -/
  | regWrite (reg : Byte) (value : Word32)
deriving DecidableEq, Repr

end Sys2Proof
end

