-- ==== Sys2Proof/Decode.lean ====
section
/-! DEFINITION. Decoding and encoding of command words (`30_encoding.md` R80 to R90). -/

namespace Sys2Proof

/-- The OPC field, CW[63:56] (R80). -/
def cwOpc (cw : Word) : Byte := cw.extractLsb' 56 8

/-- The RSV field, CW[55:48] (R80). -/
def cwRsv (cw : Word) : Byte := cw.extractLsb' 48 8

/-- The A field, CW[47:40] (R80). -/
def cwA (cw : Word) : Byte := cw.extractLsb' 40 8

/-- The B field, CW[39:32] (R80). -/
def cwB (cw : Word) : Byte := cw.extractLsb' 32 8

/-- The IMM field, CW[31:0] (R80). -/
def cwImm (cw : Word) : Word32 := cw.extractLsb' 0 32

/-- A command word from its fields (R80, R89). -/
def cwOf (opc rsv a b : Byte) (imm : Word32) : Word := opc ++ rsv ++ a ++ b ++ imm

/-- The fields a command uses (R81): A, B, and the bits of IMM. Every other bit below OPC must be 0. -/
structure OperandForm where
  usesA : Bool
  usesB : Bool
  immBits : Word32
deriving DecidableEq, Repr

/-- No operand. -/
def formNone : OperandForm := ⟨false, false, 0#32⟩

/-- A only. -/
def formA : OperandForm := ⟨true, false, 0#32⟩

/-- A and B. -/
def formAB : OperandForm := ⟨true, true, 0#32⟩

/-- A, B and IMM[0]. -/
def formABbit : OperandForm := ⟨true, true, 1#32⟩

/-- IMM[15:0]. -/
def formSample : OperandForm := ⟨false, false, 0x0000FFFF#32⟩

/-- The whole IMM. -/
def formImm : OperandForm := ⟨false, false, 0xFFFFFFFF#32⟩

/-- A and the whole IMM. -/
def formAImm : OperandForm := ⟨true, false, 0xFFFFFFFF#32⟩

/-- RSV and every field the form does not use are 0 (R81, R84). -/
def unusedZero (f : OperandForm) (cw : Word) : Bool :=
  decide (cwRsv cw = 0#8) && (f.usesA || decide (cwA cw = 0#8)) && (f.usesB || decide (cwB cw = 0#8)) &&
    decide (cwImm cw &&& ~~~f.immBits = 0#32)

/-- Why the decoder rejects a word (R84, R85). -/
inductive DecodeRefusal where
  /-- The opcode byte is not in the opcode map of R83. -/
  | illegalOpcode
  /-- RSV or a field the command does not use is not 0. -/
  | reservedField
deriving DecidableEq, Repr

/-- The command, if every field its form does not use is 0 (R84). -/
def withForm (f : OperandForm) (cw : Word) (i : Instr) : Except DecodeRefusal Instr :=
  if unusedZero f cw then .ok i else .error .reservedField

/-- Decoding of a command word, total on every word (R82 to R85): the opcode is checked first, then the unused fields.
The checks of MODE and BUSY, which need the state, are made by the command's meaning. -/
def decode (cw : Word) : Except DecodeRefusal Instr :=
  match (cwOpc cw).toNat with
  | 0x01 => withForm formSample cw (.ringPush ((cwImm cw).extractLsb' 0 16))
  | 0x02 => withForm formImm cw (.ringAt (cwImm cw))
  | 0x10 => withForm formAB cw (.pxPeek (cwA cw) (cwB cw))
  | 0x11 => withForm formABbit cw (.pxPoke (cwA cw) (cwB cw) ((cwImm cw).getLsbD 0))
  | 0x12 => withForm formNone cw .pxClear
  | 0x13 => withForm formNone cw .pxSwap
  | 0x14 => withForm formAB cw (.pxPeekLive (cwA cw) (cwB cw))
  | 0x20 => withForm formA cw (.diffSwath (cwA cw))
  | 0x21 => withForm formNone cw .opsIsBlank
  | 0x22 => withForm formNone cw .swathRender
  | 0x30 => withForm formImm cw (.zoomSet (cwImm cw))
  | 0x31 => withForm formA cw (.zoomOffset (cwA cw))
  | 0x40 => withForm formSample cw (.acqSample ((cwImm cw).extractLsb' 0 16))
  | 0x41 => withForm formNone cw .renderTick
  | 0x50 => withForm formA cw (.regRead (cwA cw))
  | 0x51 => withForm formAImm cw (.regWrite (cwA cw) (cwImm cw))
  | _ => .error .illegalOpcode

/-- The opcode byte of a command (R83). -/
def opcodeByte : Instr → Byte
  | .ringPush _ => 0x01#8
  | .ringAt _ => 0x02#8
  | .pxPeek _ _ => 0x10#8
  | .pxPoke _ _ _ => 0x11#8
  | .pxClear => 0x12#8
  | .pxSwap => 0x13#8
  | .pxPeekLive _ _ => 0x14#8
  | .diffSwath _ => 0x20#8
  | .opsIsBlank => 0x21#8
  | .swathRender => 0x22#8
  | .zoomSet _ => 0x30#8
  | .zoomOffset _ => 0x31#8
  | .acqSample _ => 0x40#8
  | .renderTick => 0x41#8
  | .regRead _ => 0x50#8
  | .regWrite _ _ => 0x51#8

/-- The A field of a command's word (R81). -/
def aField : Instr → Byte
  | .ringPush _ => 0#8
  | .ringAt _ => 0#8
  | .pxPeek col _ => col
  | .pxPoke col _ _ => col
  | .pxClear => 0#8
  | .pxSwap => 0#8
  | .pxPeekLive col _ => col
  | .diffSwath l => l
  | .opsIsBlank => 0#8
  | .swathRender => 0#8
  | .zoomSet _ => 0#8
  | .zoomOffset col => col
  | .acqSample _ => 0#8
  | .renderTick => 0#8
  | .regRead n => n
  | .regWrite n _ => n

/-- The B field of a command's word (R81). -/
def bField : Instr → Byte
  | .ringPush _ => 0#8
  | .ringAt _ => 0#8
  | .pxPeek _ row => row
  | .pxPoke _ row _ => row
  | .pxClear => 0#8
  | .pxSwap => 0#8
  | .pxPeekLive _ row => row
  | .diffSwath _ => 0#8
  | .opsIsBlank => 0#8
  | .swathRender => 0#8
  | .zoomSet _ => 0#8
  | .zoomOffset _ => 0#8
  | .acqSample _ => 0#8
  | .renderTick => 0#8
  | .regRead _ => 0#8
  | .regWrite _ _ => 0#8

/-- The IMM field of a command's word (R81, R82). -/
def immField : Instr → Word32
  | .ringPush v => v.zeroExtend 32
  | .ringAt o => o
  | .pxPeek _ _ => 0#32
  | .pxPoke _ _ v => if v then 1#32 else 0#32
  | .pxClear => 0#32
  | .pxSwap => 0#32
  | .pxPeekLive _ _ => 0#32
  | .diffSwath _ => 0#32
  | .opsIsBlank => 0#32
  | .swathRender => 0#32
  | .zoomSet v => v
  | .zoomOffset _ => 0#32
  | .acqSample v => v.zeroExtend 32
  | .renderTick => 0#32
  | .regRead _ => 0#32
  | .regWrite _ v => v

/-- The command word of a command: OPC << 56 | A << 40 | B << 32 | IMM (R89). -/
def encode (i : Instr) : Word := cwOf (opcodeByte i) 0#8 (aField i) (bField i) (immField i)

/-- The pseudo-command SCHED_OFF (R90). -/
def schedOff : Instr := .regWrite 0x00#8 0#32

/-- The pseudo-command SCHED_ON (R90). -/
def schedOn : Instr := .regWrite 0x00#8 1#32

/-- The command word whose low `nbits` bits are `w`, every bit above them 0. The port moves whole words, so no byte
order arises (`20_memory.md` R66). -/
def commandWordOf (nbits w : Nat) : Word := BitVec.ofNat 64 (w % 2 ^ nbits)

/-- The command the decoder reads from an opcode-table word. -/
def decodeTableWord (nbits w : Nat) : Option Instr :=
  match decode (commandWordOf nbits w) with
  | .ok i => some i
  | .error _ => none

end Sys2Proof
end

