-- ==== Sys2Proof/Machine/Flags.lean ====
section
/-! DEFINITION. The flag-like values of the block (`10_state.md` R44): the blank verdict, the transmitted-row flag, the
error class of a fault, the gating condition, and the STATUS word that shows them. -/

namespace Sys2Proof.Machine

open Sys2Proof

/-- The union of the four masks (`41_diff_engine.md` R133, R135). -/
def opsUnion (o : ColumnOperations) : Column := o.el ||| o.wl ||| o.er ||| o.wr

/-- IsBlank (`41_diff_engine.md` R133). -/
def isBlank (o : ColumnOperations) : Bool := decide (opsUnion o = 0#64)

/-- RowAny(r) (`41_diff_engine.md` R135). -/
def rowAny (o : ColumnOperations) (r : Nat) : Bool := (opsUnion o).getLsbD r

/-- The fault codes (`60_exceptions.md` R260). -/
inductive FaultCode where
  | illegalOpcode
  | reservedField
  | mode
  | busy
  | range
  | badReg
  | roWrite
deriving DecidableEq, Repr

/-- The number of a fault code (`60_exceptions.md` R260). -/
def faultNumber : FaultCode → Byte
  | .illegalOpcode => 1#8
  | .reservedField => 2#8
  | .mode => 3#8
  | .busy => 4#8
  | .range => 5#8
  | .badReg => 6#8
  | .roWrite => 7#8

/-- The fault sets ERR_ILLEGAL (`60_exceptions.md` R260). -/
def setsErrIllegal : FaultCode → Bool
  | .illegalOpcode => true
  | .reservedField => true
  | .mode => true
  | .busy => false
  | .range => false
  | .badReg => true
  | .roWrite => true

/-- The fault sets ERR_RANGE (`60_exceptions.md` R260). -/
def setsErrRange : FaultCode → Bool
  | .illegalOpcode => false
  | .reservedField => false
  | .mode => false
  | .busy => false
  | .range => true
  | .badReg => false
  | .roWrite => false

/-- The fault sets ERR_BUSY (`60_exceptions.md` R260). -/
def setsErrBusy : FaultCode → Bool
  | .illegalOpcode => false
  | .reservedField => false
  | .mode => false
  | .busy => true
  | .range => false
  | .badReg => false
  | .roWrite => false

/-- The gated writers are shut out: CTRL.SCHED_EN = 1 or RENDER_ACTIVE = 1 (`30_encoding.md` R84, `60_exceptions.md`
R261). -/
def writersGated (s : State) : Bool := s.schedEn || s.renderActive

/-- The 3-bit value of SCHED_STATE (`10_state.md` R35). -/
def schedStateBits : SchedState → BitVec 3
  | .idle => 0#3
  | .frameStart => 1#3
  | .columnFill => 2#3
  | .swathFlush => 3#3
  | .frameDone => 4#3

/-- The 3-bit value of FLUSH_PHASE (`10_state.md` R39). -/
def flushPhaseBits : FlushPhase → BitVec 3
  | .diff => 0#3
  | .busCmd => 1#3
  | .busSelCol => 2#3
  | .rowCmd => 3#3
  | .rowSel => 4#3
  | .rowDph => 5#3
  | .rowWr => 6#3
  | .busEnd => 7#3

/-- One bit. -/
def bit1 (b : Bool) : BitVec 1 := BitVec.ofBool b

/-- The STATUS word (`10_state.md` R27), its fields from bit 31 down. -/
def statusWord (s : State) : Word32 :=
  0#13 ++ bit1 s.errBusy ++ bit1 s.errRange ++ bit1 s.errIllegal ++ 0#5 ++ schedStateBits s.schedState ++ 0#3 ++
    bit1 s.shadowSel ++ bit1 s.renderReq ++ bit1 s.renderActive ++ bit1 s.abort ++ bit1 s.rip

end Sys2Proof.Machine
end

