-- ==== Sys2Proof/Machine/Ops.lean ====
section
/-! DEFINITION. The named operations over ring, pixels, bus and registers, raising a fault, and the entry to and return
from a preemption. -/

namespace Sys2Proof.Machine

open Sys2Proof

/-! ### The ring memory -/

/-- What an entry that nothing has pushed reads as: its reset value 0 (`10_state.md` R25). -/
def ringUnlisted : Sample := 0#16

/-- The sample at an index (`00_scope.md` R14 RingRead). -/
def Memory.read : Memory → Nat → Sample
  | [], _ => ringUnlisted
  | (a, v) :: rest, i => if a = i then v else Memory.read rest i

/-- One cell in front, unless it would list what an unlisted index reads as. -/
def Memory.consCell (i : Nat) (v : Sample) (rest : Memory) : Memory :=
  if v = ringUnlisted then rest else (i, v) :: rest

/-- Storing a sample at an index (`00_scope.md` R14 RingWrite), keeping the canonical form. -/
def Memory.write : Memory → Nat → Sample → Memory
  | [], i, v => Memory.consCell i v []
  | (a, w) :: rest, i, v =>
    if i < a then Memory.consCell i v ((a, w) :: rest)
    else if i = a then Memory.consCell i v rest
    else (a, w) :: Memory.write rest i v

/-- Every listed index is above `n`, strictly rising, and no listed sample is what an unlisted index reads as. -/
def Memory.wfAbove : Nat → Memory → Bool
  | _, [] => true
  | n, (a, v) :: rest => decide (n < a) && decide (v ≠ ringUnlisted) && Memory.wfAbove a rest

/-- The canonical form of the ring memory. -/
def Memory.wf : Memory → Bool
  | [] => true
  | (a, v) :: rest => decide (v ≠ ringUnlisted) && Memory.wfAbove a rest

/-! ### The pixel buffers -/

/-- Column `c` of a buffer. A column past 127 does not exist and reads 0; no run asks for one (log 9). -/
def PixBuf.read (p : PixBuf) (c : Nat) : Column := if h : c < 128 then p[c] else 0#64

/-- A buffer with column `c` replaced; unchanged for a column that does not exist (log 9). -/
def PixBuf.write (p : PixBuf) (c : Nat) (v : Column) : PixBuf := if h : c < 128 then p.set c v else p

/-- Physical buffer `b`: P0 for false, P1 for true. -/
def State.pixBuf (s : State) (b : Bool) : PixBuf := if b then s.p1 else s.p0

/-- PixRead(b, c) (`00_scope.md` R14). -/
def State.pixRead (s : State) (b : Bool) (c : Nat) : Column := PixBuf.read (s.pixBuf b) c

/-- SH, the physical buffer playing shadow (`00_scope.md` R14). -/
def State.sh (s : State) : Bool := s.shadowSel

/-- LV, the physical buffer playing live (`00_scope.md` R14). -/
def State.lv (s : State) : Bool := !s.shadowSel

/-- PixWrite(b, c, v) (`00_scope.md` R14). -/
def State.pixWrite (s : State) (b : Bool) (c : Nat) (v : Column) : State :=
  { s with
    p0 := if b then s.p0 else PixBuf.write s.p0 c v
    p1 := if b then PixBuf.write s.p1 c v else s.p1 }

/-- Every column of buffer `b` written 0 (`40_pixel_plane.md` R112, `44_render_scheduler.md` R217). -/
def State.pixClear (s : State) (b : Bool) : State :=
  { s with
    p0 := if b then s.p0 else PixBuf.blank
    p1 := if b then PixBuf.blank else s.p1 }

/-- SHADOW_SEL <- 1 - SHADOW_SEL (`40_pixel_plane.md` R113). -/
def State.swapRoles (s : State) : State := { s with shadowSel := !s.shadowSel }

/-- The mask 1 << r (`00_scope.md` R13). -/
def rowBit (r : Nat) : Column := 1#64 <<< r

/-! ### RESULT, OPS and the bus -/

/-- Result(v) (`00_scope.md` R14). -/
def State.setResult (s : State) (v : Word32) : State := { s with result := v }

/-- OPS and OPS_LEFT written (`41_diff_engine.md` R132, `44_render_scheduler.md` R207). -/
def State.setOps (s : State) (o : ColumnOperations) (l : BitVec 7) : State := { s with ops := o, opsLeft := l }

/-- The bus events, one per BusProtocolAdapter operation (`30_encoding.md` R95). -/
inductive BusEvent where
  | cmd
  | data
  | selCol (start stop : BitVec 6)
  | selRow (start stop : BitVec 6)
  | write (value : Byte)
  | endTransaction
deriving DecidableEq, Repr

/-- The 16-bit word of a bus event: KIND in [15:12], payload in [11:0] (`30_encoding.md` R95). -/
def busWord : BusEvent → EventWord
  | .cmd => 1#4 ++ 0#12
  | .data => 2#4 ++ 0#12
  | .selCol a b => 3#4 ++ a ++ b
  | .selRow a b => 4#4 ++ a ++ b
  | .write v => 5#4 ++ 0#4 ++ v
  | .endTransaction => 6#4 ++ 0#12

/-- Emit(ev) (`00_scope.md` R14, `10_state.md` R42). -/
def State.emit (s : State) (ev : BusEvent) : State := { s with buslog := s.buslog ++ [busWord ev] }

/-- The selection of swath s: SELCOL s, s with s = l / 2 (`30_encoding.md` R96, `41_diff_engine.md` R138). -/
def selSwath (l : Nat) : BusEvent := .selCol (BitVec.ofNat 6 (l / 2)) (BitVec.ofNat 6 (l / 2))

/-- The selection of row r: SELROW r, r (`41_diff_engine.md` R138). -/
def selSingleRow (r : Nat) : BusEvent := .selRow (BitVec.ofNat 6 r) (BitVec.ofNat 6 r)

/-! ### Raising a fault -/

/-- raise Fault(code) for a word with opcode byte `opc` and A field `a` (`00_scope.md` R15, `10_state.md` R27, R28,
`60_exceptions.md` R263): the class's error bit, and the record if it is the first since reset; nothing else. There is
no return from a fault: it is non-vectoring (R263). -/
def State.raiseFault (s : State) (code : FaultCode) (opc a : Byte) : State :=
  { s with
    errIllegal := s.errIllegal || setsErrIllegal code
    errRange := s.errRange || setsErrRange code
    errBusy := s.errBusy || setsErrBusy code
    faultInfo := if s.faultInfo.code = 0#8 then ⟨faultNumber code, opc, a⟩ else s.faultInfo }

/-- The command `i` ends in a fault: a next state (log 5). -/
def faultOf (i : Instr) (code : FaultCode) (s : State) : Host.Outcome State Fault Refusal :=
  .next (s.raiseFault code (opcodeByte i) (aField i))

/-- The gated writer `i`: BUSY while the render path owns what it writes, else its effect (`60_exceptions.md` R261). -/
def gatedWriter (i : Instr) (s : State) (effect : Host.Outcome State Fault Refusal) :
    Host.Outcome State Fault Refusal :=
  if writersGated s then faultOf i .busy s else effect

/-! ### Preemption: entry and return -/

/-- Preemption entry (`60_exceptions.md` R268, `44_render_scheduler.md` R219): the forced release of the bus. Nothing is
saved. -/
def State.forcedRelease (s : State) : State :=
  if s.rip then { s.emit .endTransaction with rip := false, abort := true } else s

/-- Return from preemption, AbortStep (`60_exceptions.md` R269, `44_render_scheduler.md` R208): the swath restarts from
a fresh diff. -/
def State.abortStep (s : State) : State := { s with abort := false, flushPhase := .diff }

end Sys2Proof.Machine
end

