-- ==== Sys2Proof/Machine/RegisterAccess.lean ====
section
/-! DEFINITION. Register access commands and the register map (`45_register_access.md`). -/

namespace Sys2Proof.Machine

open Sys2Proof

/-- The CTRL word: bit 0 SCHED_EN, the rest read 0 (`10_state.md` R29). -/
def ctrlWord (s : State) : Word32 := 0#31 ++ bit1 s.schedEn

/-- COLS_PER_TICK as CONFIG shows it: binary 01 or 10 (`10_state.md` R30). -/
def colsPerTickBits : ColsPerTick → BitVec 2
  | .one => 1#2
  | .two => 2#2

/-- The CONFIG word (`10_state.md` R30), its fields from bit 31 down. -/
def configWord (c : Config) : Word32 :=
  0#25 ++ colsPerTickBits c.colsPerTick ++ bit1 (decide (c.offsetPolicy = .continuous)) ++
    bit1 (decide (c.schedMode = .dualTimer)) ++ bit1 (decide (c.mirror = .on)) ++
    bit1 (decide (c.clearPolicy = .clearOnSwap)) ++ bit1 (signedZoom c)

/-- The FAULT_INFO word: A, OPC, CODE in bits [23:0] (`10_state.md` R28). -/
def faultInfoWord (f : FaultInfo) : Word32 := 0#8 ++ f.a ++ f.opc ++ f.code

/-- The FLUSH word: FLUSH_PHASE in [2:0], FLUSH_ROW in [14:8] (R250). -/
def flushWord (s : State) : Word32 := 0#17 ++ s.flushRow ++ 0#5 ++ flushPhaseBits s.flushPhase

/-- The LO half of a mask: rows 0 to 31 (`20_memory.md` R64). -/
def maskLo (m : Column) : Word32 := m.extractLsb' 0 32

/-- The HI half of a mask: rows 32 to 63 (`20_memory.md` R64). -/
def maskHi (m : Column) : Word32 := m.extractLsb' 32 32

/-- The value of register `n` as R250 gives it, none for an undefined number. -/
def regValue (n : Byte) (s : State) : Option Word32 :=
  match n.toNat with
  | 0x00 => some (ctrlWord s)
  | 0x01 => some (statusWord s)
  | 0x02 => some (configWord s.cfg)
  | 0x03 => some (faultInfoWord s.faultInfo)
  | 0x04 => some (BitVec.ofNat 32 (capacityOf s.cfg))
  | 0x05 => some (BitVec.ofNat 32 (divisorOf s.cfg))
  | 0x06 => some (BitVec.ofNat 32 (maxZoomOf s.cfg))
  | 0x07 => some (BitVec.ofNat 32 (minZoomOf s.cfg))
  | 0x08 => some (BitVec.ofNat 32 (rowScaleOf s.cfg))
  | 0x09 => some (BitVec.ofNat 32 (tickSamplesOf s.cfg))
  | 0x10 => some (s.cursor.zeroExtend 32)
  | 0x11 => some s.zoom
  | 0x12 => some s.fzoom
  | 0x13 => some (s.base.zeroExtend 32)
  | 0x14 => some (s.schedCol.zeroExtend 32)
  | 0x15 => some (s.tickLeft.zeroExtend 32)
  | 0x16 => some (s.tickcnt.zeroExtend 32)
  | 0x17 => some (flushWord s)
  | 0x18 => some (maskLo s.ops.el)
  | 0x19 => some (maskHi s.ops.el)
  | 0x1A => some (maskLo s.ops.wl)
  | 0x1B => some (maskHi s.ops.wl)
  | 0x1C => some (maskLo s.ops.er)
  | 0x1D => some (maskHi s.ops.er)
  | 0x1E => some (maskLo s.ops.wr)
  | 0x1F => some (maskHi s.ops.wr)
  | 0x20 => some (s.opsLeft.zeroExtend 32)
  | _ => none

/-- A write of CTRL (R252): SCHED_EN from bit 0, and a pending tick request dropped when it is cleared (R253). -/
def State.writeCtrl (s : State) (v : Word32) : State :=
  { s with schedEn := v.getLsbD 0, renderReq := s.renderReq && v.getLsbD 0 }

/-- REG_READ (R251). -/
def execRegRead (n : Byte) (s : State) : Host.Outcome State Fault Refusal :=
  match regValue n s with
  | some v => .next (s.setResult v)
  | none => faultOf (.regRead n) .badReg s

/-- REG_WRITE (R252): BAD_REG before RO_WRITE. -/
def execRegWrite (n : Byte) (v : Word32) (s : State) : Host.Outcome State Fault Refusal :=
  match regValue n s with
  | none => faultOf (.regWrite n v) .badReg s
  | some _ => if n = 0x00#8 then .next ((s.writeCtrl v).setResult 0#32) else faultOf (.regWrite n v) .roWrite s

end Sys2Proof.Machine
end

