-- ==== Sys2Proof/Machine/DiffEngine.lean ====
section
/-! DEFINITION. DiffEngine commands and the swath bus sequence (`41_diff_engine.md`). -/

namespace Sys2Proof.Machine

open Sys2Proof

/-- Mirror (R131): both directions read the masks as they were. -/
def mirrorOps (o : ColumnOperations) : ColumnOperations :=
  { o with wl := o.wl ||| o.er ||| o.wr, wr := o.wr ||| o.el ||| o.wl }

/-- The masks of two columns, shadow against live, before mirroring (R130). -/
def diffColumns (sL vL sR vR : Column) : ColumnOperations where
  el := vL &&& (sL ^^^ vL)
  wl := sL &&& (sL ^^^ vL)
  er := vR &&& (sR ^^^ vR)
  wr := sR &&& (sR ^^^ vR)

/-- The mirroring policy applied (R130, R131). -/
def mirrorPer (m : MirrorPolicy) (o : ColumnOperations) : ColumnOperations :=
  match m with
  | .off => o
  | .on => mirrorOps o

/-- DiffSwath(l) (R130). -/
def State.diffSwath (s : State) (l : Nat) : ColumnOperations :=
  mirrorPer s.cfg.mirror
    (diffColumns (s.pixRead s.sh l) (s.pixRead s.lv l) (s.pixRead s.sh (l + 1)) (s.pixRead s.lv (l + 1)))

/-- RowByte(r) (R136). -/
def rowByte (o : ColumnOperations) (r : Nat) : Byte :=
  (if o.wl.getLsbD r then 0x0F#8 else 0x00#8) ||| (if o.wr.getLsbD r then 0xF0#8 else 0x00#8)

/-- A live column with row r taken from the shadow column (R137). -/
def commitBit (live shadow : Column) (r : Nat) : Column := (live &&& ~~~rowBit r) ||| (shadow &&& rowBit r)

/-- CommitRow for one column (R137). -/
def State.commitCell (s : State) (c r : Nat) : State :=
  s.pixWrite s.lv c (commitBit (s.pixRead s.lv c) (s.pixRead s.sh c) r)

/-- CommitRow(l, r) (R137). -/
def State.commitRow (s : State) (l r : Nat) : State := (s.commitCell l r).commitCell (l + 1) r

/-- One item of a swath's transmission: an event, and the row it commits if it carries a commit (R138). -/
structure SwathItem where
  event : BusEvent
  commits : Option Nat
deriving DecidableEq, Repr

/-- The items of transmitted row r (R138). -/
def rowItems (o : ColumnOperations) (r : Nat) : List SwathItem :=
  if rowAny o r then
    [⟨.cmd, none⟩, ⟨selSingleRow r, none⟩, ⟨.data, none⟩, ⟨.write (rowByte o r), some r⟩]
  else []

/-- SwathEvents(l) (R138): nothing at all for a blank OPS (R140). -/
def swathItems (o : ColumnOperations) (l : Nat) : List SwathItem :=
  if isBlank o then []
  else [⟨.cmd, none⟩, ⟨selSwath l, none⟩] ++ (List.range 64).flatMap (rowItems o) ++ [⟨.endTransaction, none⟩]

/-- One item performed: the event emitted, and its row committed (R139). -/
def State.performItem (s : State) (l : Nat) (it : SwathItem) : State :=
  match it.commits with
  | none => s.emit it.event
  | some r => (s.emit it.event).commitRow l r

/-- Items performed in order (R139). -/
def State.performItems (s : State) (l : Nat) : List SwathItem → State
  | [] => s
  | it :: rest => (s.performItem l it).performItems l rest

/-- The number of items that commit a row: the k of R139. -/
def commitCount (items : List SwathItem) : Nat := items.countP (fun it => it.commits.isSome)

/-- DIFF_SWATH (R132). -/
def execDiffSwath (leftCol : Byte) (s : State) : Host.Outcome State Fault Refusal :=
  gatedWriter (.diffSwath leftCol) s
    (if leftColInRange leftCol then
      .next ((s.setOps (s.diffSwath leftCol.toNat) (BitVec.ofNat 7 leftCol.toNat)).setResult 0#32)
     else faultOf (.diffSwath leftCol) .range s)

/-- OPS_ISBLANK (R134). -/
def execOpsIsBlank (s : State) : Host.Outcome State Fault Refusal :=
  .next (s.setResult (u32OfBit (isBlank s.ops)))

/-- SWATH_RENDER (R139). -/
def execSwathRender (s : State) : Host.Outcome State Fault Refusal :=
  gatedWriter .swathRender s
    (.next ((s.performItems s.opsLeft.toNat (swathItems s.ops s.opsLeft.toNat)).setResult
      (BitVec.ofNat 32 (commitCount (swathItems s.ops s.opsLeft.toNat)))))

end Sys2Proof.Machine
end

