-- ==== Sys2Proof/Machine/PixelPlane.lean ====
section
/-! DEFINITION. PixelPlane commands (`40_pixel_plane.md`). -/

namespace Sys2Proof.Machine

open Sys2Proof

/-- The pixel at (col, row) of physical buffer `b`. -/
def State.pixel (s : State) (b : Bool) (col row : Nat) : Bool := (s.pixRead b col).getLsbD row

/-- The poke of one pixel of the shadow buffer (R111). -/
def State.poke (s : State) (col row : Nat) (v : Bool) : State :=
  s.pixWrite s.sh col
    (if v then s.pixRead s.sh col ||| rowBit row else s.pixRead s.sh col &&& ~~~rowBit row)

/-- PX_PEEK (R110). -/
def execPxPeek (col row : Byte) (s : State) : Host.Outcome State Fault Refusal :=
  if coordInRange col row then .next (s.setResult (u32OfBit (s.pixel s.sh col.toNat row.toNat)))
  else faultOf (.pxPeek col row) .range s

/-- PX_POKE (R111). -/
def execPxPoke (col row : Byte) (value : Bool) (s : State) : Host.Outcome State Fault Refusal :=
  gatedWriter (.pxPoke col row value) s
    (if coordInRange col row then .next ((s.poke col.toNat row.toNat value).setResult 0#32)
     else faultOf (.pxPoke col row value) .range s)

/-- PX_CLEAR (R112). -/
def execPxClear (s : State) : Host.Outcome State Fault Refusal :=
  gatedWriter .pxClear s (.next ((s.pixClear s.sh).setResult 0#32))

/-- PX_SWAP (R113): a pure exchange of roles; CLEAR_POLICY is not applied. -/
def execPxSwap (s : State) : Host.Outcome State Fault Refusal :=
  gatedWriter .pxSwap s (.next (s.swapRoles.setResult 0#32))

/-- PX_PEEK_LIVE (R114). -/
def execPxPeekLive (col row : Byte) (s : State) : Host.Outcome State Fault Refusal :=
  if coordInRange col row then .next (s.setResult (u32OfBit (s.pixel s.lv col.toNat row.toNat)))
  else faultOf (.pxPeekLive col row) .range s

end Sys2Proof.Machine
end

