-- ==== Sys2Proof/Machine/SampleRing.lean ====
section
/-! DEFINITION. SampleRing commands (`42_sample_ring.md`). -/

namespace Sys2Proof.Machine

open Sys2Proof

/-- Normalize(x) = x mod CAPACITY, exact (R160). -/
def normalize (c : Config) (x : Int) : Nat := (x % (capacityOf c : Int)).toNat

/-- RingPush(v) (R161): the cursor advances and the sample is stored at it. -/
def State.ringPush (s : State) (v : Sample) : State :=
  { s with
    cursor := BitVec.ofNat 24 ((s.cursor.toNat + 1) % capacityOf s.cfg)
    ring := s.ring.write ((s.cursor.toNat + 1) % capacityOf s.cfg) v }

/-- RingReadFrom(b, o) (R164). -/
def State.ringReadFrom (s : State) (b : RingIndex) (o : Int) : Sample :=
  s.ring.read (normalize s.cfg ((b.toNat : Int) + o))

/-- RING_PUSH (R162). -/
def execRingPush (sample : Sample) (s : State) : Host.Outcome State Fault Refusal :=
  gatedWriter (.ringPush sample) s (.next ((s.ringPush sample).setResult 0#32))

/-- RING_AT (R163). -/
def execRingAt (offset : Word32) (s : State) : Host.Outcome State Fault Refusal :=
  .next (s.setResult (u32OfSample (s.ringReadFrom s.cursor (s32 offset))))

end Sys2Proof.Machine
end

