-- ==== Sys2Proof/Machine/ZoomResampler.lean ====
section
/-! DEFINITION. ZoomResampler commands and the column-to-offset mapping (`43_zoom_resampler.md`). -/

namespace Sys2Proof.Machine

open Sys2Proof

/-- clamp(v, lo, hi) (`00_scope.md` R13). -/
def clampInt (v lo hi : Int) : Int := if v < lo then lo else if hi < v then hi else v

/-- The lower end of the legal zoom range (R180). -/
def zoomLow (c : Config) : Int := if signedZoom c then -(minZoomOf c : Int) else 1

/-- The upper end of the legal zoom range (R180). -/
def zoomHigh (c : Config) : Int := (maxZoomOf c : Int)

/-- ClampZoom(v) (R180). -/
def clampZoom (c : Config) (v : Int) : Int := clampInt v (zoomLow c) (zoomHigh c)

/-- Dist(z, col) in SIGNED mode (R183). -/
def distSigned (z : Int) (col : Nat) : Int :=
  if 2 ≤ z then (col : Int) / z else if z ≤ -2 then (col : Int) * (-z) else (col : Int)

/-- Dist(z, col) (R182, R183). -/
def dist (c : Config) (z : Int) (col : Nat) : Int := if signedZoom c then distSigned z col else (col : Int) * z

/-- Offset(z, col) (R184). -/
def zoomOffset (c : Config) (z : Int) (col : Nat) : Int :=
  match c.offsetPolicy with
  | .frameRelative => -(dist c z col * (divisorOf c : Int))
  | .continuous => -(dist c z col)

/-- ZOOM_SET (R181). -/
def execZoomSet (factor : Word32) (s : State) : Host.Outcome State Fault Refusal :=
  .next ({ s with zoom := u32OfInt (clampZoom s.cfg (s32 factor)) }.setResult
    (u32OfInt (clampZoom s.cfg (s32 factor))))

/-- ZOOM_OFFSET (R185): the mapping of ZOOM, not FZOOM. -/
def execZoomOffset (col : Byte) (s : State) : Host.Outcome State Fault Refusal :=
  if colInRange col then .next (s.setResult (u32OfInt (zoomOffset s.cfg (s32 s.zoom) col.toNat)))
  else faultOf (.zoomOffset col) .range s

end Sys2Proof.Machine
end

