-- ==== Sys2Proof/Machine/RenderScheduler.lean ====
section
/-! DEFINITION. The RenderScheduler's micro-steps, ACQ_SAMPLE and RENDER_TICK (`44_render_scheduler.md`). -/

namespace Sys2Proof.Machine

open Sys2Proof

/-- SampleToRow(v) (R201). -/
def sampleToRow (c : Config) (v : Sample) : Nat :=
  let r : Int := 63 - ((v.toNat / rowScaleOf c : Nat) : Int)
  if r < 0 then 0 else r.toNat

/-- The base of a column's read, per OFFSET_POLICY (R202). -/
def State.columnBase (s : State) : RingIndex :=
  match s.cfg.offsetPolicy with
  | .frameRelative => s.base
  | .continuous => s.cursor

/-- ColumnSample(c) (R202). -/
def State.columnSample (s : State) (c : Nat) : Sample :=
  s.ringReadFrom s.columnBase (zoomOffset s.cfg (s32 s.fzoom) c)

/-- NextRow(r) (R210): the least transmitted row from r on, or 64. -/
def nextRow (o : ColumnOperations) (r : Nat) : Nat :=
  ((List.range 64).find? (fun q => decide (r ≤ q) && rowAny o q)).getD 64

/-- FLUSH_ROW and the phase that follows it (R210, R214). -/
def State.toRow (s : State) (r : Nat) : State :=
  { s with
    flushRow := BitVec.ofNat 7 (nextRow s.ops r)
    flushPhase := if nextRow s.ops r < 64 then .rowCmd else .busEnd }

/-- TickStart (R204). -/
def State.tickStart (s : State) : State :=
  { s with
    renderReq := false
    renderActive := true
    tickLeft := BitVec.ofNat 2 (colsPerTickOf s.cfg)
    schedState := if s.schedState = .idle then .frameStart else s.schedState }

/-- FrameStartStep (R205). -/
def State.frameStartStep (s : State) : State :=
  { s with base := s.cursor, fzoom := s.zoom, schedCol := 0#8, schedState := .columnFill }

/-- The drawing of column `c`: one lit pixel, nothing cleared (R206). -/
def State.drawColumn (s : State) (c : Nat) : State := s.poke c (sampleToRow s.cfg (s.columnSample c)) true

/-- ColumnFillStep (R206). -/
def State.columnFillStep (s : State) : State :=
  if s.tickLeft = 0#2 then { s with renderActive := false }
  else
    { s.drawColumn s.schedCol.toNat with
      schedCol := s.schedCol + 1#8
      tickLeft := s.tickLeft - 1#2
      schedState := if s.schedCol.toNat % 2 = 1 then .swathFlush else s.schedState
      flushPhase := if s.schedCol.toNat % 2 = 1 then .diff else s.flushPhase }

/-- AfterFlush (R216). -/
def State.afterFlush (s : State) : State :=
  { s with
    flushPhase := .diff
    schedState := if s.schedCol = 128#8 then .frameDone else .columnFill }

/-- The left column of the swath just filled (R207). -/
def State.flushLeft (s : State) : Nat := s.schedCol.toNat - 2

/-- DiffStep (R207): a blank swath is skipped with no bus event. -/
def State.diffStep (s : State) : State :=
  let t := s.setOps (s.diffSwath s.flushLeft) (BitVec.ofNat 7 s.flushLeft)
  if isBlank t.ops then t.afterFlush else { t with flushRow := 0#7, flushPhase := .busCmd }

/-- BusCmdStep (R209). -/
def State.busCmdStep (s : State) : State := { s.emit .cmd with rip := true, flushPhase := .busSelCol }

/-- BusSelColStep (R210). -/
def State.busSelColStep (s : State) : State := (s.emit (selSwath s.opsLeft.toNat)).toRow 0

/-- RowCmdStep (R211). -/
def State.rowCmdStep (s : State) : State := { s.emit .cmd with flushPhase := .rowSel }

/-- RowSelStep (R212). -/
def State.rowSelStep (s : State) : State := { s.emit (selSingleRow s.flushRow.toNat) with flushPhase := .rowDph }

/-- RowDphStep (R213). -/
def State.rowDphStep (s : State) : State := { s.emit .data with flushPhase := .rowWr }

/-- RowWrStep (R214): the write and the commit are one step. -/
def State.rowWrStep (s : State) : State :=
  ((s.emit (.write (rowByte s.ops s.flushRow.toNat))).commitRow s.opsLeft.toNat s.flushRow.toNat).toRow
    (s.flushRow.toNat + 1)

/-- BusEndStep (R215). -/
def State.busEndStep (s : State) : State := { s.emit .endTransaction with rip := false }.afterFlush

/-- The clear policy on the new shadow (R217). -/
def State.clearPerPolicy (s : State) : State :=
  match s.cfg.clearPolicy with
  | .clearOnSwap => s.pixClear s.sh
  | .carry => s

/-- FrameDoneStep (R217). -/
def State.frameDoneStep (s : State) : State :=
  { s.swapRoles.clearPerPolicy with schedState := .idle, renderActive := false }

/-- The bus micro-steps, with AbortStep before a step of a phase from BUS_SELCOL on (R203, R208). -/
def State.flushStep (s : State) : State :=
  match s.flushPhase with
  | .diff => s.diffStep
  | .busCmd => s.busCmdStep
  | .busSelCol => if s.abort then s.abortStep else s.busSelColStep
  | .rowCmd => if s.abort then s.abortStep else s.rowCmdStep
  | .rowSel => if s.abort then s.abortStep else s.rowSelStep
  | .rowDph => if s.abort then s.abortStep else s.rowDphStep
  | .rowWr => if s.abort then s.abortStep else s.rowWrStep
  | .busEnd => if s.abort then s.abortStep else s.busEndStep

/-- RenderStep (R203). With RENDER_ACTIVE = 1 and SCHED_STATE = IDLE no line of R203 applies and nothing changes; a turn
of the RENDER agent there stops by name (`renderTurn`; log 7). -/
def State.renderStep (s : State) : State :=
  if s.renderActive then
    match s.schedState with
    | .idle => s
    | .frameStart => s.frameStartStep
    | .columnFill => s.columnFillStep
    | .swathFlush => s.flushStep
    | .frameDone => s.frameDoneStep
  else s.tickStart

/-- The loop of R220, `while RENDER_ACTIVE = 1: RenderStep()`, at most `fuel` times. -/
def State.runWhileActive : Nat → State → State
  | 0, s => s
  | fuel + 1, s => if s.renderActive then State.runWhileActive fuel s.renderStep else s

/-- More micro-steps than any tick takes (R220; log 8). -/
def tickFuel : Nat := 2048

/-- RunTickAtomic (R220). -/
def State.runTickAtomic (s : State) : State := State.runWhileActive tickFuel s.tickStart

/-- The sample count of the single-timer configuration (R219), the tick run when it reaches TICK_SAMPLES. The count starts
from what TICKCNT holds, also after SCHED_EN was cleared and set again with TICKCNT not 0: `45_register_access.md` R253
can be read as wanting a fresh count there (DEDUCED, unsafe, log 19). -/
def State.countSample (s : State) : State :=
  if s.tickcnt.toNat + 1 = tickSamplesOf s.cfg then
    { s with tickcnt := 0#16, renderReq := true }.runTickAtomic
  else { s with tickcnt := s.tickcnt + 1#16 }

/-- Whether ACQ_SAMPLE counts the sample: SCHED_MODE = SINGLE_TIMER and SCHED_EN = 1 (R219). -/
def countsSamples (s : State) : Bool := decide (s.cfg.schedMode = .singleTimer) && s.schedEn

/-- The acquisition of one sample before counting: the forced release, then the push (R219). -/
def State.acquire (s : State) (v : Sample) : State := s.forcedRelease.ringPush v

/-- ACQ_SAMPLE (R219). -/
def execAcqSample (sample : Sample) (s : State) : Host.Outcome State Fault Refusal :=
  .next ((if countsSamples s then (s.acquire sample).countSample else s.acquire sample).setResult 0#32)

/-- RENDER_TICK (R221); the MODE check is the decoder's of `30_encoding.md` R84. -/
def execRenderTick (s : State) : Host.Outcome State Fault Refusal :=
  match s.cfg.schedMode with
  | .singleTimer => faultOf .renderTick .mode s
  | .dualTimer => .next ({ s with renderReq := s.renderReq || s.schedEn }.setResult 0#32)

/-- The RENDER agent has a step (R218). There is no RENDER agent in the single-timer configuration. -/
def State.renderEnabled (s : State) : Bool :=
  decide (s.cfg.schedMode = .dualTimer) && (s.renderActive || (s.renderReq && s.schedEn))

/-- No line of R203 applies (log 7). -/
def State.renderHasNoLine (s : State) : Bool := s.renderActive && decide (s.schedState = .idle)

/-- A turn of the RENDER agent (R218): RenderStep if it has a step, else nothing (`60_exceptions.md` R277). -/
def renderTurn (s : State) : Host.Outcome State Fault Refusal :=
  if s.renderEnabled then
    if s.renderHasNoLine then .fault .renderStuck else .next s.renderStep
  else .next s

end Sys2Proof.Machine
end

