-- ==== Sys2Proof/Machine/Dispatch.lean ====
section
/-! DEFINITION. One arm per command. -/

namespace Sys2Proof.Machine

open Sys2Proof

def exec (i : Instr) (s : State) : Host.Outcome State Fault Refusal :=
  match i with
  | .ringPush sample => Sys2Proof.Machine.execRingPush sample s
  | .ringAt offset => Sys2Proof.Machine.execRingAt offset s
  | .pxPeek col row => Sys2Proof.Machine.execPxPeek col row s
  | .pxPoke col row value => Sys2Proof.Machine.execPxPoke col row value s
  | .pxClear => Sys2Proof.Machine.execPxClear s
  | .pxSwap => Sys2Proof.Machine.execPxSwap s
  | .pxPeekLive col row => Sys2Proof.Machine.execPxPeekLive col row s
  | .diffSwath leftCol => Sys2Proof.Machine.execDiffSwath leftCol s
  | .opsIsBlank => Sys2Proof.Machine.execOpsIsBlank s
  | .swathRender => Sys2Proof.Machine.execSwathRender s
  | .zoomSet factor => Sys2Proof.Machine.execZoomSet factor s
  | .zoomOffset col => Sys2Proof.Machine.execZoomOffset col s
  | .acqSample sample => Sys2Proof.Machine.execAcqSample sample s
  | .renderTick => Sys2Proof.Machine.execRenderTick s
  | .regRead reg => Sys2Proof.Machine.execRegRead reg s
  | .regWrite reg value => Sys2Proof.Machine.execRegWrite reg value s

end Sys2Proof.Machine
end

