-- ==== Sys2Proof/Machine/Port.lean ====
section
/-! DEFINITION. What one port event does: a command word decoded and run, a RENDER turn, a reset
(`00_scope.md` R12, `20_memory.md` R73). -/

namespace Sys2Proof.Machine

open Sys2Proof

/-- The fault code of a word the decoder rejects (`30_encoding.md` R84). -/
def decodeFaultCode : DecodeRefusal → FaultCode
  | .illegalOpcode => .illegalOpcode
  | .reservedField => .reservedField

/-- A command word on the port (`30_encoding.md` R84): the decoded command's meaning, or the decoder's fault, recorded
with the word's opcode byte and A field (`10_state.md` R28). -/
def runCommand (cw : Word) (s : State) : Host.Outcome State Fault Refusal :=
  match decode cw with
  | .ok i => exec i s
  | .error e => .next (s.raiseFault (decodeFaultCode e) (cwOpc cw) (cwA cw))

/-- Reset (`70_reset_and_hazards.md` R290): every piece of state at its reset value, the configuration kept, no bus
event. What has not arrived yet is no state of the block and stays to come (log 14). -/
def State.applyReset (s : State) : State := State.resetWith s.cfg s.pending

/-- One port event. -/
def runEvent (e : PortEvent) (s : State) : Host.Outcome State Fault Refusal :=
  match e with
  | .command cw => runCommand cw s
  | .renderTurn => renderTurn s
  | .reset => .next s.applyReset

/-- The state with the event that arrived taken off the list. -/
def State.withPending (s : State) (p : List PortEvent) : State := { s with pending := p }

/-- The state with one more event to arrive before the others. -/
def State.arrive (s : State) (e : PortEvent) : State := s.withPending (e :: s.pending)

end Sys2Proof.Machine
end

