-- ==== Sys2Proof/Machine/Step.lean ====
section
/-! DEFINITION. One atomic step of the block (`20_memory.md` R68, R73). -/

namespace Sys2Proof.Machine

open Sys2Proof

/-- One step: the next port event; with none pending the RENDER agent moves if it has a step, and otherwise the block
idles unchanged (`44_render_scheduler.md` R218, `60_exceptions.md` R277; log 1, log 10). -/
def step (s : State) : Host.Outcome State Fault Refusal :=
  match s.pending with
  | [] => renderTurn s
  | e :: rest => runEvent e (s.withPending rest)

/-- The state whose next step runs the command word with low bits `w`: the word arrives on the command port first
(log 16). -/
def State.withFetchWord (s : State) (nbits w : Nat) : State := s.arrive (.command (commandWordOf nbits w))

end Sys2Proof.Machine
end

