-- ==== Sys2Proof/Machine/Runs.lean ====
section
/-! DEFINITION. Endless runs of the block and weak fairness to the RENDER agent (`70_reset_and_hazards.md` R300,
`93_implementation_defined.md` I8, I12, I13). `State.pending` holds a finite part of an interleaving; an endless one is a
function from the step's number, which stands here and not in the state (log 11). -/

namespace Sys2Proof.Machine

open Sys2Proof

/-- The states `σ` are a run over the endless interleaving `events`: event `n` arrives at state `n`, and the step it makes
answers state `n + 1` (`20_memory.md` R73). -/
def IsRun (σ : Nat → State) (events : Nat → PortEvent) : Prop :=
  ∀ n, step ((σ n).arrive (events n)) = .next (σ (n + 1))

/-- Weak fairness to the RENDER agent (R300): if from some point on it always has an enabled step, it takes one. -/
def WeaklyFair (σ : Nat → State) (events : Nat → PortEvent) : Prop :=
  ∀ n, (∀ m, n ≤ m → (σ m).renderEnabled = true) → ∃ m, n ≤ m ∧ events m = .renderTurn

/-- An endless run of the dual-timer configuration as R300 admits it. -/
def IsFairRun (σ : Nat → State) (events : Nat → PortEvent) : Prop := IsRun σ events ∧ WeaklyFair σ events

/-- The event is an ACQ_SAMPLE command. -/
def isAcquisition : PortEvent → Bool
  | .command cw =>
    match decode cw with
    | .ok (.acqSample _) => true
    | .ok _ => false
    | .error _ => false
  | .renderTurn => false
  | .reset => false

/-- A row of the transmission in progress has been written: the RENDER agent has taken its first RowWrStep since
BusCmdStep, so a transmitted row lies below FLUSH_ROW (R300, `44_render_scheduler.md` R210, R214). -/
def rowWritten (s : State) : Bool :=
  (List.range 64).any fun r => rowAny s.ops r && decide (r < s.flushRow.toNat)

/-- The turn of the RENDER agent is AbortStep, which restarts the swath (R300, `44_render_scheduler.md` R208). -/
def isRestart (s : State) (e : PortEvent) : Bool :=
  decide (e = .renderTurn) && s.abort && decide (s.flushPhase ≠ .diff) && decide (s.flushPhase ≠ .busCmd)

/-- The number of restarts before state `m` of a run (R300). -/
def restartsBefore (σ : Nat → State) (events : Nat → PortEvent) (m : Nat) : Nat :=
  (List.range m).countP fun k => isRestart (σ k) (events k)

/-- The endless preemption of R300: DiffStep, BusCmdStep, an ACQ_SAMPLE, AbortStep, and again. -/
def preemptionStream (samples : Nat → Sample) (n : Nat) : PortEvent :=
  if n % 4 = 2 then .command (encode (.acqSample (samples (n / 4)))) else .renderTurn

end Sys2Proof.Machine
end

