-- ==== Sys2Proof/WellFormed.lean ====
section
/-! DEFINITION. The pre-validation a caller owes (`70_reset_and_hazards.md` R305, "caller must pre-validate"): the
operand ranges that the commands' own rules check (RANGE, BAD_REG, RO_WRITE). The decoder does not check them
(`30_encoding.md` R82): an ill-formed command decodes, and its meaning raises the fault. -/

namespace Sys2Proof

/-- A pixel coordinate in range: column below 128 and row below 64 (`40_pixel_plane.md` R110). -/
def coordWellFormed (col row : Byte) : Bool := decide (col.toNat < 128) && decide (row.toNat < 64)

/-- A swath's left column: even and at most 126 (`20_memory.md` R67, `41_diff_engine.md` R132). -/
def leftColWellFormed (l : Byte) : Bool := decide (l.toNat ≤ 126) && decide (l.toNat % 2 = 0)

/-- A register number that `45_register_access.md` R250 lists: 0x00 to 0x09 and 0x10 to 0x20. -/
def regWellFormed (n : Byte) : Bool :=
  decide (n.toNat ≤ 0x09) || (decide (0x10 ≤ n.toNat) && decide (n.toNat ≤ 0x20))

/-- The command raises no fault of its own rule: its operands are in the ranges of `60_exceptions.md` R260. -/
def Instr.wellFormed : Instr → Bool
  | .ringPush _ => true
  | .ringAt _ => true
  | .pxPeek col row => coordWellFormed col row
  | .pxPoke col row _ => coordWellFormed col row
  | .pxClear => true
  | .pxSwap => true
  | .pxPeekLive col row => coordWellFormed col row
  | .diffSwath l => leftColWellFormed l
  | .opsIsBlank => true
  | .swathRender => true
  | .zoomSet _ => true
  | .zoomOffset col => decide (col.toNat < 128)
  | .acqSample _ => true
  | .renderTick => true
  | .regRead n => regWellFormed n
  | .regWrite n _ => decide (n = 0x00#8)

end Sys2Proof
end

