-- ==== Sys2Proof/Safety.lean ====
section
/-! DEFINITION. The terms the statements use: quiescence and readiness for direct use, and the invariants that hold of
every state a run reaches. -/

namespace Sys2Proof.Machine

open Sys2Proof

/-- End of run: no host command left and no enabled render step (`70_reset_and_hazards.md` R304). -/
def State.quiescent (s : State) : Bool := s.pending.isEmpty && !s.renderEnabled

/-- The direct writer commands are admitted: SCHED_EN = 0 and RENDER_ACTIVE = 0 (`70_reset_and_hazards.md` R295). -/
def State.directUse (s : State) : Bool := !writersGated s

/-- FLUSH_PHASE is BUS_SELCOL or later (`44_render_scheduler.md` R203, R208). -/
def pastBusCmd : FlushPhase → Bool
  | .diff => false
  | .busCmd => false
  | .busSelCol => true
  | .rowCmd => true
  | .rowSel => true
  | .rowDph => true
  | .rowWr => true
  | .busEnd => true

/-- FLUSH_PHASE is one of the four phases of a row's transmission (`44_render_scheduler.md` R211 to R214). -/
def rowPhase : FlushPhase → Bool
  | .diff => false
  | .busCmd => false
  | .busSelCol => false
  | .rowCmd => true
  | .rowSel => true
  | .rowDph => true
  | .rowWr => true
  | .busEnd => false

/-- The ring's canonical form, and the ranges of the ring and its index registers (`10_state.md` R25, R26, R34). -/
structure RingInv (s : State) : Prop where
  ringWf : s.ring.wf = true
  ringBelow : ∀ cell ∈ s.ring, cell.1 < capacityOf s.cfg
  cursorBelow : s.cursor.toNat < capacityOf s.cfg
  baseBelow : s.base.toNat < capacityOf s.cfg

/-- The legal zoom range (`43_zoom_resampler.md` R180). -/
def zoomLegal (c : Config) (z : Word32) : Prop := zoomLow c ≤ s32 z ∧ s32 z ≤ zoomHigh c

/-- ZOOM and FZOOM are always legal (`10_state.md` R32, R33). -/
structure ZoomInv (s : State) : Prop where
  zoomOk : zoomLegal s.cfg s.zoom
  fzoomOk : zoomLegal s.cfg s.fzoom

/-- The scheduler's micro-state is one a run reaches (`10_state.md` R35 to R37, `44_render_scheduler.md` R204 to R217). -/
structure SchedInv (s : State) : Prop where
  colMax : s.schedCol.toNat ≤ 128
  idleInactive : s.schedState = .idle → s.renderActive = false
  inactiveStates : s.renderActive = false → s.schedState = .idle ∨ s.schedState = .columnFill
  inactiveBudget : s.renderActive = false → s.tickLeft = 0#2
  budgetMax : s.tickLeft.toNat ≤ colsPerTickOf s.cfg
  startBudget : s.schedState = .frameStart → s.tickLeft.toNat = colsPerTickOf s.cfg
  fillCol : s.schedState = .columnFill → s.schedCol.toNat < 128
  fillParity : s.schedState = .columnFill → s.cfg.colsPerTick = .two → (s.schedCol.toNat + s.tickLeft.toNat) % 2 = 0
  flushCol : s.schedState = .swathFlush → s.schedCol.toNat % 2 = 0 ∧ 2 ≤ s.schedCol.toNat
  flushBudget : s.schedState = .swathFlush → s.tickLeft = 0#2
  doneCol : s.schedState = .frameDone → s.schedCol.toNat = 128
  doneBudget : s.schedState = .frameDone → s.tickLeft = 0#2

/-- The swath flush and the bus flags agree (`10_state.md` R24, R39, R41, `44_render_scheduler.md` R207 to R215, R222):
past BUS_CMD exactly one of RIP and ABORT is set, elsewhere neither. -/
structure FlushInv (s : State) : Prop where
  phaseState : s.flushPhase ≠ .diff → s.schedState = .swathFlush
  ripOrAbort : (s.rip || s.abort) = pastBusCmd s.flushPhase
  notBoth : (s.rip && s.abort) = false
  opsLeftEven : s.opsLeft.toNat % 2 = 0
  opsSwath : s.flushPhase ≠ .diff → s.opsLeft.toNat = s.flushLeft ∧ isBlank s.ops = false
  rowLive : rowPhase s.flushPhase = true → s.flushRow.toNat < 64 ∧ rowAny s.ops s.flushRow.toNat = true
  rowMax : s.flushRow.toNat ≤ 64

/-- The sample count is in range, and between two steps of the single-timer configuration no tick is requested or
running (`10_state.md` R38, `44_render_scheduler.md` R218, R220, R227). -/
structure TimerInv (s : State) : Prop where
  countBelow : s.tickcnt.toNat < tickSamplesOf s.cfg
  dualCount : s.cfg.schedMode = .dualTimer → s.tickcnt = 0#16
  singleQuiet : s.cfg.schedMode = .singleTimer → s.renderActive = false ∧ s.renderReq = false

/-- The error bit of a fault number is set (`60_exceptions.md` R260). -/
def recordedBit (s : State) : Bool :=
  match s.faultInfo.code.toNat with
  | 1 => s.errIllegal
  | 2 => s.errIllegal
  | 3 => s.errIllegal
  | 4 => s.errBusy
  | 5 => s.errRange
  | 6 => s.errIllegal
  | 7 => s.errIllegal
  | _ => false

/-- The fault record and the error bits agree (`10_state.md` R27, R28, `60_exceptions.md` R260). -/
structure FaultInv (s : State) : Prop where
  noneRecorded : s.faultInfo.code = 0#8 →
    s.faultInfo = ⟨0#8, 0#8, 0#8⟩ ∧ s.errIllegal = false ∧ s.errRange = false ∧ s.errBusy = false
  recorded : s.faultInfo.code ≠ 0#8 → recordedBit s = true

/-- A word that the block may emit: the six kinds of `30_encoding.md` R95, ranges with start = end (R96), and the four
row bytes of `41_diff_engine.md` R136. -/
def busWordLegal (e : EventWord) : Bool :=
  match (e.extractLsb' 12 4).toNat with
  | 1 => decide (e.extractLsb' 0 12 = 0#12)
  | 2 => decide (e.extractLsb' 0 12 = 0#12)
  | 3 => decide (e.extractLsb' 6 6 = e.extractLsb' 0 6)
  | 4 => decide (e.extractLsb' 6 6 = e.extractLsb' 0 6)
  | 5 => decide (e.extractLsb' 0 12 = 0x000#12) || decide (e.extractLsb' 0 12 = 0x00F#12) ||
      decide (e.extractLsb' 0 12 = 0x0F0#12) || decide (e.extractLsb' 0 12 = 0x0FF#12)
  | 6 => decide (e.extractLsb' 0 12 = 0#12)
  | _ => false

/-- A transaction stands open on the bus: events were emitted, and the last is no END (`44_render_scheduler.md` R222). -/
def busOpen (log : List EventWord) : Bool :=
  match log.getLast? with
  | none => false
  | some e => decide (e ≠ busWord .endTransaction)

/-- The bus-event output (`10_state.md` R41, R42): legal words only, and RIP = 1 exactly while a transaction stands
open. -/
structure BusInv (s : State) : Prop where
  wordsLegal : ∀ e ∈ s.buslog, busWordLegal e = true
  ripOpen : s.rip = busOpen s.buslog

/-- All the invariants of the block together. -/
structure BlockInv (s : State) : Prop where
  ring : RingInv s
  zoom : ZoomInv s
  sched : SchedInv s
  flush : FlushInv s
  timer : TimerInv s
  fault : FaultInv s
  bus : BusInv s

/-! ### The spec's own forms, which the statements compare the machine with -/

/-- The sixteen opcode bytes of `30_encoding.md` R83. -/
def legalOpcodes : List Byte :=
  [0x01#8, 0x02#8, 0x10#8, 0x11#8, 0x12#8, 0x13#8, 0x14#8, 0x20#8, 0x21#8, 0x22#8, 0x30#8, 0x31#8, 0x40#8, 0x41#8,
    0x50#8, 0x51#8]

/-- The gated writers of `60_exceptions.md` R261. -/
def isGatedWriter : Instr → Bool
  | .ringPush _ => true
  | .ringAt _ => false
  | .pxPeek _ _ => false
  | .pxPoke _ _ _ => true
  | .pxClear => true
  | .pxSwap => true
  | .pxPeekLive _ _ => false
  | .diffSwath _ => true
  | .opsIsBlank => false
  | .swathRender => true
  | .zoomSet _ => false
  | .zoomOffset _ => false
  | .acqSample _ => false
  | .renderTick => false
  | .regRead _ => false
  | .regWrite _ _ => false

/-- FAULT_INFO after a fault with number `n` of a word with opcode byte `opc` and A field `a` (`10_state.md` R28). -/
def firstFault (s : State) (n opc a : Byte) : FaultInfo := if s.faultInfo.code = 0#8 then ⟨n, opc, a⟩ else s.faultInfo

/-- The state after BUSY: ERR_BUSY and the record, nothing else (`60_exceptions.md` R260, R263). -/
def afterBusy (i : Instr) (s : State) : State :=
  { s with errBusy := true, faultInfo := firstFault s 4#8 (opcodeByte i) (aField i) }

/-- The state after RANGE: ERR_RANGE and the record, nothing else (`60_exceptions.md` R260, R263). -/
def afterRange (i : Instr) (s : State) : State :=
  { s with errRange := true, faultInfo := firstFault s 5#8 (opcodeByte i) (aField i) }

/-- The state after a fault of class ERR_ILLEGAL with number `n` (`60_exceptions.md` R260, R263). -/
def afterIllegal (n : Byte) (i : Instr) (s : State) : State :=
  { s with errIllegal := true, faultInfo := firstFault s n (opcodeByte i) (aField i) }

/-- The operands break a range of `60_exceptions.md` R260. -/
def rangeViolation : Instr → Bool
  | .ringPush _ => false
  | .ringAt _ => false
  | .pxPeek col row => decide (128 ≤ col.toNat) || decide (64 ≤ row.toNat)
  | .pxPoke col row _ => decide (128 ≤ col.toNat) || decide (64 ≤ row.toNat)
  | .pxClear => false
  | .pxSwap => false
  | .pxPeekLive col row => decide (128 ≤ col.toNat) || decide (64 ≤ row.toNat)
  | .diffSwath l => decide (126 < l.toNat) || decide (l.toNat % 2 = 1)
  | .opsIsBlank => false
  | .swathRender => false
  | .zoomSet _ => false
  | .zoomOffset col => decide (128 ≤ col.toNat)
  | .acqSample _ => false
  | .renderTick => false
  | .regRead _ => false
  | .regWrite _ _ => false

/-- A transmitted row of four masks (`41_diff_engine.md` R135). -/
def rowSent (o : ColumnOperations) (r : Nat) : Bool :=
  o.el.getLsbD r || o.wl.getLsbD r || o.er.getLsbD r || o.wr.getLsbD r

/-- The words of a transmitted row, as numbers (`30_encoding.md` R95, `41_diff_engine.md` R136, R138). -/
def rowWords (o : ColumnOperations) (r : Nat) : List EventWord :=
  if rowSent o r then
    [0x1000#16, BitVec.ofNat 16 (0x4000 + 64 * r + r), 0x2000#16,
      BitVec.ofNat 16 (0x5000 + (if o.wl.getLsbD r then 0x0F else 0) + (if o.wr.getLsbD r then 0xF0 else 0))]
  else []

/-- The words of swath `sw`'s transmission, as numbers (`41_diff_engine.md` R138, R140). -/
def swathWords (o : ColumnOperations) (sw : Nat) : List EventWord :=
  if o.el = 0#64 ∧ o.wl = 0#64 ∧ o.er = 0#64 ∧ o.wr = 0#64 then []
  else [0x1000#16, BitVec.ofNat 16 (0x3000 + 64 * sw + sw)] ++ (List.range 64).flatMap (rowWords o) ++ [0x6000#16]

/-- The number of transmitted rows (`41_diff_engine.md` R139). -/
def sentCount (o : ColumnOperations) : Nat := (List.range 64).countP (rowSent o)

/-- The shadow and live buffers differ at row `r` of column `l` or column `l + 1` (`41_diff_engine.md` R143). -/
def swathDiffers (s : State) (l r : Nat) : Bool :=
  (s.pixel s.sh l r != s.pixel s.lv l r) || (s.pixel s.sh (l + 1) r != s.pixel s.lv (l + 1) r)

/-- The masks of a swath, pixel by pixel, before mirroring: `el` and `er` where only live is lit, `wl` and `wr` where
only shadow is (`41_diff_engine.md` R130). -/
def rowMasks (s : State) (l r : Nat) : Bool × Bool × Bool × Bool :=
  (s.pixel s.lv l r && !s.pixel s.sh l r, s.pixel s.sh l r && !s.pixel s.lv l r,
    s.pixel s.lv (l + 1) r && !s.pixel s.sh (l + 1) r, s.pixel s.sh (l + 1) r && !s.pixel s.lv (l + 1) r)

/-- `o` holds the masks of the swath with left column `l`, mirrored if MIRROR is ON (`41_diff_engine.md` R130, R131). -/
def masksOfSwath (s : State) (l : Nat) (o : ColumnOperations) : Prop :=
  ∀ r < 64,
    match rowMasks s l r, s.cfg.mirror with
    | (el, wl, er, wr), .off =>
      o.el.getLsbD r = el ∧ o.wl.getLsbD r = wl ∧ o.er.getLsbD r = er ∧ o.wr.getLsbD r = wr
    | (el, wl, er, wr), .on =>
      o.el.getLsbD r = el ∧ o.wl.getLsbD r = (wl || er || wr) ∧ o.er.getLsbD r = er ∧
        o.wr.getLsbD r = (wr || el || wl)

/-- The columns of the frame in progress whose swath has been flushed (`44_render_scheduler.md` R206, R216). -/
def flushedCols (s : State) : Nat :=
  match s.schedState with
  | .idle => 0
  | .frameStart => 0
  | .columnFill => s.schedCol.toNat - s.schedCol.toNat % 2
  | .swathFlush => s.schedCol.toNat - 2
  | .frameDone => 128

/-- Row `r`'s byte has not been written in the transmission in progress (`44_render_scheduler.md` R210, R214, R223). -/
def notYetWritten (s : State) (r : Nat) : Bool :=
  match s.flushPhase with
  | .diff => true
  | .busCmd => true
  | .busSelCol => true
  | .rowCmd => decide (s.flushRow.toNat ≤ r)
  | .rowSel => decide (s.flushRow.toNat ≤ r)
  | .rowDph => decide (s.flushRow.toNat ≤ r)
  | .rowWr => decide (s.flushRow.toNat ≤ r)
  | .busEnd => false

/-- While the scheduler owns the buffers: shadow and live agree on every flushed column, and the rows of the current swath
at which they still differ are exactly the transmitted rows not yet written (`44_render_scheduler.md` R206 to R217,
R223). -/
structure FrameInv (s : State) : Prop where
  agree : ∀ c r, c < flushedCols s → s.pixel s.sh c r = s.pixel s.lv c r
  toSend : ∀ r < 64, s.flushPhase ≠ .diff →
    swathDiffers s s.opsLeft.toNat r = (rowSent s.ops r && notYetWritten s r)

/-- The number of rows of the swath with left column `l` at which shadow and live differ (`41_diff_engine.md` R143). -/
def rowsLeft (s : State) (l : Nat) : Nat := (List.range 64).countP (swathDiffers s l)

/-- The column at which the tick in progress will end: the next column to fill plus the budget left
(`44_render_scheduler.md` R204 to R206). -/
def tickEnd (s : State) : Nat := (if s.schedState = .frameStart then 0 else s.schedCol.toNat) + s.tickLeft.toNat

/-- 0 or 1. -/
def natOfBool (b : Bool) : Nat := if b then 1 else 0

/-- SCHED_STATE as a number (`10_state.md` R35). -/
def schedStateNumber : SchedState → Nat
  | .idle => 0
  | .frameStart => 1
  | .columnFill => 2
  | .swathFlush => 3
  | .frameDone => 4

/-- FLUSH_PHASE as a number (`10_state.md` R39). -/
def flushPhaseNumber : FlushPhase → Nat
  | .diff => 0
  | .busCmd => 1
  | .busSelCol => 2
  | .rowCmd => 3
  | .rowSel => 4
  | .rowDph => 5
  | .rowWr => 6
  | .busEnd => 7

/-- STATUS as a sum of its fields (`10_state.md` R27). -/
def statusNumber (s : State) : Nat :=
  natOfBool s.rip + 2 * natOfBool s.abort + 4 * natOfBool s.renderActive + 8 * natOfBool s.renderReq +
    16 * natOfBool s.shadowSel + 256 * schedStateNumber s.schedState + 65536 * natOfBool s.errIllegal +
    131072 * natOfBool s.errRange + 262144 * natOfBool s.errBusy

/-- CONFIG as a sum of its fields (`10_state.md` R30). -/
def configNumber (c : Config) : Nat :=
  natOfBool (signedZoom c) + 2 * natOfBool (decide (c.clearPolicy = .clearOnSwap)) +
    4 * natOfBool (decide (c.mirror = .on)) + 8 * natOfBool (decide (c.schedMode = .dualTimer)) +
    16 * natOfBool (decide (c.offsetPolicy = .continuous)) + 32 * colsPerTickOf c

/-- The register map of `45_register_access.md` R250: number and value read. -/
def registerMap (s : State) : List (Byte × Nat) :=
  [(0x00#8, natOfBool s.schedEn), (0x01#8, statusNumber s), (0x02#8, configNumber s.cfg),
    (0x03#8, s.faultInfo.code.toNat + 256 * s.faultInfo.opc.toNat + 65536 * s.faultInfo.a.toNat),
    (0x04#8, capacityOf s.cfg), (0x05#8, divisorOf s.cfg), (0x06#8, maxZoomOf s.cfg), (0x07#8, minZoomOf s.cfg),
    (0x08#8, rowScaleOf s.cfg), (0x09#8, tickSamplesOf s.cfg),
    (0x10#8, s.cursor.toNat), (0x11#8, s.zoom.toNat), (0x12#8, s.fzoom.toNat), (0x13#8, s.base.toNat),
    (0x14#8, s.schedCol.toNat), (0x15#8, s.tickLeft.toNat), (0x16#8, s.tickcnt.toNat),
    (0x17#8, flushPhaseNumber s.flushPhase + 256 * s.flushRow.toNat),
    (0x18#8, s.ops.el.toNat % 2 ^ 32), (0x19#8, s.ops.el.toNat / 2 ^ 32),
    (0x1A#8, s.ops.wl.toNat % 2 ^ 32), (0x1B#8, s.ops.wl.toNat / 2 ^ 32),
    (0x1C#8, s.ops.er.toNat % 2 ^ 32), (0x1D#8, s.ops.er.toNat / 2 ^ 32),
    (0x1E#8, s.ops.wr.toNat % 2 ^ 32), (0x1F#8, s.ops.wr.toNat / 2 ^ 32),
    (0x20#8, s.opsLeft.toNat)]

/-- Every piece of state has the reset value of `10_state.md` R47. -/
structure ResetValues (t : State) : Prop where
  pixels : ∀ b c, t.pixRead b c = 0#64
  shadowSel : t.shadowSel = false
  ops : t.ops = ⟨0#64, 0#64, 0#64, 0#64⟩ ∧ t.opsLeft = 0#7
  ring : ∀ i, Memory.read t.ring i = 0#16
  cursor : t.cursor = 0#24
  errors : t.errIllegal = false ∧ t.errRange = false ∧ t.errBusy = false
  faultInfo : t.faultInfo = ⟨0#8, 0#8, 0#8⟩
  ctrl : t.schedEn = true
  zoom : t.zoom = 1#32 ∧ t.fzoom = 1#32
  base : t.base = 0#24
  sched : t.schedState = .idle ∧ t.schedCol = 0#8 ∧ t.tickLeft = 0#2 ∧ t.tickcnt = 0#16
  flush : t.flushPhase = .diff ∧ t.flushRow = 0#7
  render : t.renderActive = false ∧ t.renderReq = false
  bus : t.rip = false ∧ t.abort = false ∧ t.buslog = []
  result : t.result = 0#32

/-- The span of a frame, S(z) = -Offset(z, 127) (`43_zoom_resampler.md` R187). -/
def frameSpan (c : Config) (z : Int) : Int := -(zoomOffset c z 127)

end Sys2Proof.Machine
end

