-- ==== Sys2Proof/Certificates/Slice0/Obligations.lean ====
section
/-! DEFINITION. The statements for the provers, from the numbered rules of spec/. -/

open Sys2Proof Sys2Proof.Machine

/-! ### Encoding and decoding -/

/-- `30_encoding.md` R80 to R83, R89: decoding a command's word gives the command back, with every operand at every
value its field admits. -/
def Obligations.EncodedCommandsDecodeBack : Prop := ∀ i : Instr, decode (encode i) = .ok i

/-- `30_encoding.md` R84, R86: a word that decodes is the encoding of the command it decodes to, so no two words decode
to one command and no bit is dropped. -/
def Obligations.DecodedWordsAreEncodings : Prop := ∀ (cw : Word) (i : Instr), decode cw = .ok i → encode i = cw

/-- `30_encoding.md` R85: a word that encodes no command faults, ILLEGAL_OPCODE (1) when its opcode byte is none of the
sixteen and RESERVED_FIELD (2) otherwise, and changes nothing but the fault record. -/
def Obligations.RejectedWordsOnlyRecordAFault : Prop :=
  ∀ (s : State) (cw : Word), (∀ i, encode i ≠ cw) →
    runCommand cw s = .next { s with
      errIllegal := true
      faultInfo := firstFault s (if cwOpc cw ∈ legalOpcodes then 2#8 else 1#8) (cwOpc cw) (cwA cw) }

/-- Words written out in spec/ (`40_pixel_plane.md` to `45_register_access.md`, `95_test_vectors.md`) decode to the
commands they stand for. -/
def Obligations.SpecWordsDecode : Prop :=
  decode 0x0100000000001234#64 = .ok (.ringPush 0x1234#16) ∧
    decode 0x02000000FFFFFFFF#64 = .ok (.ringAt 0xFFFFFFFF#32) ∧
    decode 0x10007F3F00000000#64 = .ok (.pxPeek 127#8 63#8) ∧
    decode 0x1100040500000001#64 = .ok (.pxPoke 4#8 5#8 true) ∧
    decode 0x2000040000000000#64 = .ok (.diffSwath 4#8) ∧
    decode 0x3000000000000009#64 = .ok (.zoomSet 9#32) ∧
    decode 0x31007F0000000000#64 = .ok (.zoomOffset 127#8) ∧
    decode 0x4000000000000005#64 = .ok (.acqSample 5#16) ∧
    decode 0x5000020000000000#64 = .ok (.regRead 2#8) ∧
    decode 0x51000000FFFFFFFF#64 = .ok (.regWrite 0#8 0xFFFFFFFF#32)

/-! ### Steps -/

/-- `30_encoding.md` R84: a step takes the next port event, a command word, a turn of the RENDER agent or a reset, and does
what it says; a command word that decodes runs its command, on the state with the word taken off the port. The order in
which port events arrive is the model's `pending` list (log 1). -/
def Obligations.StepRunsTheDecodedCommand : Prop :=
  (∀ (s : State) (e : PortEvent) (rest : List PortEvent), s.pending = e :: rest →
      step s = runEvent e { s with pending := rest }) ∧
    (∀ (s : State) (cw : Word), runEvent (.command cw) s = runCommand cw s) ∧
    (∀ (s : State) (cw : Word) (rest : List PortEvent) (i : Instr), s.pending = .command cw :: rest → decode cw = .ok i →
      step s = exec i { s with pending := rest }) ∧
    ∀ (s : State) (i : Instr), decode (encode i) = .ok i → step (s.withFetchWord 64 (encode i).toNat) = exec i s

/-- `44_render_scheduler.md` R218, `60_exceptions.md` R277: a turn of the RENDER agent takes RenderStep exactly when the
agent has a step, and otherwise changes nothing. The agent's turn comes when nothing is pending, or where the `pending`
list says so (the model's, log 1); the excluded micro-state is the one no run reaches (log 7). -/
def Obligations.RenderAgentStepsWhenEnabled : Prop :=
  (∀ s : State, s.pending = [] → step s = renderTurn s) ∧
    (∀ (s : State) (rest : List PortEvent), s.pending = .renderTurn :: rest →
      step s = renderTurn { s with pending := rest }) ∧
    (∀ s : State, s.cfg.schedMode = .dualTimer →
      (s.renderActive = true ∧ s.schedState ≠ .idle) ∨
        (s.renderActive = false ∧ s.renderReq = true ∧ s.schedEn = true) → renderTurn s = .next s.renderStep) ∧
    ∀ s : State, s.cfg.schedMode = .singleTimer ∨
        (s.renderActive = false ∧ (s.renderReq = false ∨ s.schedEn = false)) → renderTurn s = .next s

/-- `10_state.md` R47, `70_reset_and_hazards.md` R290, R291: reset gives every piece of state its reset value, emits no
bus event and keeps the configuration; `State.reset` has those values. -/
def Obligations.ResetRestoresEveryValue : Prop :=
  (∀ s : State, ∃ t, runEvent .reset s = .next t ∧ ResetValues t ∧ t.cfg = s.cfg) ∧ ResetValues State.reset

/-! ### PixelPlane -/

/-- `40_pixel_plane.md` R110, R114: a peek returns its pixel of the shadow or live buffer and changes RESULT only; out of
range it faults RANGE. -/
def Obligations.PeeksReadTheirBuffer : Prop :=
  ∀ (s : State) (col row : Byte),
    (col.toNat < 128 → row.toNat < 64 →
      exec (.pxPeek col row) s =
          .next { s with result := if s.pixel s.sh col.toNat row.toNat then 1#32 else 0#32 } ∧
        exec (.pxPeekLive col row) s =
          .next { s with result := if s.pixel s.lv col.toNat row.toNat then 1#32 else 0#32 }) ∧
    (128 ≤ col.toNat ∨ 64 ≤ row.toNat →
      exec (.pxPeek col row) s = .next (afterRange (.pxPeek col row) s) ∧
        exec (.pxPeekLive col row) s = .next (afterRange (.pxPeekLive col row) s))

/-- `40_pixel_plane.md` R111: a poke writes its one pixel of the shadow buffer, every other pixel of both buffers and
every other piece of state but RESULT unchanged; gated it faults BUSY, out of range RANGE. -/
def Obligations.PokeWritesOnePixel : Prop :=
  ∀ (s : State) (col row : Byte) (v : Bool),
    (s.schedEn = true ∨ s.renderActive = true →
      exec (.pxPoke col row v) s = .next (afterBusy (.pxPoke col row v) s)) ∧
    (s.schedEn = false → s.renderActive = false → (128 ≤ col.toNat ∨ 64 ≤ row.toNat) →
      exec (.pxPoke col row v) s = .next (afterRange (.pxPoke col row v) s)) ∧
    (s.schedEn = false → s.renderActive = false → col.toNat < 128 → row.toNat < 64 →
      ∃ t, exec (.pxPoke col row v) s = .next t ∧
        (∀ b c r, t.pixel b c r = if b = s.sh ∧ c = col.toNat ∧ r = row.toNat then v else s.pixel b c r) ∧
        t = { s with p0 := t.p0, p1 := t.p1, result := 0#32 })

/-- `40_pixel_plane.md` R115, for two commands in a row: a PX_PEEK after a PX_POKE of the same pixel returns the value
poked. -/
def Obligations.PokeThenPeekReturnsTheValue : Prop :=
  ∀ (s : State) (col row : Byte) (v : Bool), s.schedEn = false → s.renderActive = false → col.toNat < 128 →
    row.toNat < 64 →
    ∃ t u, exec (.pxPoke col row v) s = .next t ∧ exec (.pxPeek col row) t = .next u ∧
      u.result = if v then 1#32 else 0#32

/-- `40_pixel_plane.md` R112: PX_CLEAR zeroes the shadow buffer and nothing else but RESULT. -/
def Obligations.ClearZeroesTheShadowOnly : Prop :=
  ∀ s : State,
    (s.schedEn = true ∨ s.renderActive = true → exec .pxClear s = .next (afterBusy .pxClear s)) ∧
    (s.schedEn = false → s.renderActive = false →
      ∃ t, exec .pxClear s = .next t ∧ (∀ c, t.pixRead s.sh c = 0#64) ∧
        (∀ c, t.pixRead s.lv c = s.pixRead s.lv c) ∧ t = { s with p0 := t.p0, p1 := t.p1, result := 0#32 })

/-- `40_pixel_plane.md` R113, R116: PX_SWAP changes SHADOW_SEL and RESULT only, and after it, as after the FRAME_DONE
micro-step, live is what shadow was and shadow what live was (before the clear of CLEAR_ON_SWAP). -/
def Obligations.SwapExchangesTheRoles : Prop :=
  ∀ s : State,
    (s.schedEn = true ∨ s.renderActive = true → exec .pxSwap s = .next (afterBusy .pxSwap s)) ∧
    (s.schedEn = false → s.renderActive = false →
      ∃ t, exec .pxSwap s = .next t ∧ t = { s with shadowSel := !s.shadowSel, result := 0#32 } ∧
        (∀ c r, t.pixel t.sh c r = s.pixel s.lv c r) ∧ ∀ c r, t.pixel t.lv c r = s.pixel s.sh c r) ∧
    (s.renderActive = true → s.schedState = .frameDone →
      ∃ t, s.renderStep = t ∧ (∀ c r, t.pixel t.lv c r = s.pixel s.sh c r) ∧
        (s.cfg.clearPolicy = .carry → ∀ c r, t.pixel t.sh c r = s.pixel s.lv c r))

/-! ### DiffEngine -/

/-- `41_diff_engine.md` R130 to R132: DIFF_SWATH puts the masks of its swath, mirrored per policy, into OPS, and changes
OPS, OPS_LEFT and RESULT only; gated it faults BUSY, for an odd column or one above 126 RANGE. -/
def Obligations.DiffSwathComputesTheMasks : Prop :=
  ∀ (s : State) (l : Byte),
    (s.schedEn = true ∨ s.renderActive = true → exec (.diffSwath l) s = .next (afterBusy (.diffSwath l) s)) ∧
    (s.schedEn = false → s.renderActive = false → (126 < l.toNat ∨ l.toNat % 2 = 1) →
      exec (.diffSwath l) s = .next (afterRange (.diffSwath l) s)) ∧
    (s.schedEn = false → s.renderActive = false → l.toNat ≤ 126 → l.toNat % 2 = 0 →
      ∃ t, exec (.diffSwath l) s = .next t ∧ masksOfSwath s l.toNat t.ops ∧ t.opsLeft.toNat = l.toNat ∧
        t = { s with ops := t.ops, opsLeft := t.opsLeft, result := 0#32 })

/-- `41_diff_engine.md` R133, R134: OPS_ISBLANK returns 1 exactly if all four masks are 0, and changes RESULT only. -/
def Obligations.OpsIsBlankReportsTheMasks : Prop :=
  ∀ s : State, exec .opsIsBlank s = .next { s with
    result := if s.ops.el = 0#64 ∧ s.ops.wl = 0#64 ∧ s.ops.er = 0#64 ∧ s.ops.wr = 0#64 then 1#32 else 0#32 }

/-- `41_diff_engine.md` R136 to R140: SWATH_RENDER emits the swath's events (none for a blank OPS, else 3 + 4k for k
transmitted rows), commits exactly the transmitted rows of its two columns into live, returns k, and changes nothing
else. -/
def Obligations.SwathRenderTransmitsAndCommits : Prop :=
  ∀ s : State,
    (s.schedEn = true ∨ s.renderActive = true → exec .swathRender s = .next (afterBusy .swathRender s)) ∧
    (s.schedEn = false → s.renderActive = false → s.opsLeft.toNat % 2 = 0 →
      ∃ t, exec .swathRender s = .next t ∧
        t.buslog = s.buslog ++ swathWords s.ops (s.opsLeft.toNat / 2) ∧
        t.buslog.length = s.buslog.length + (if sentCount s.ops = 0 then 0 else 3 + 4 * sentCount s.ops) ∧
        t.result.toNat = sentCount s.ops ∧
        (∀ b c r, t.pixel b c r =
          if b = s.lv ∧ (c = s.opsLeft.toNat ∨ c = s.opsLeft.toNat + 1) ∧ rowSent s.ops r = true
          then s.pixel s.sh c r else s.pixel b c r) ∧
        t = { s with p0 := t.p0, p1 := t.p1, buslog := t.buslog, result := t.result })

/-- `41_diff_engine.md` R142, for SWATH_RENDER: once a swath has been diffed and rendered, diffing it again gives blank
masks, under either mirror policy. -/
def Obligations.RenderedSwathDiffsBlank : Prop :=
  ∀ (s : State) (l : Byte), s.schedEn = false → s.renderActive = false → l.toNat ≤ 126 → l.toNat % 2 = 0 →
    ∃ t u w x, exec (.diffSwath l) s = .next t ∧ exec .swathRender t = .next u ∧ exec (.diffSwath l) u = .next w ∧
      w.ops = ⟨0#64, 0#64, 0#64, 0#64⟩ ∧ exec .opsIsBlank w = .next x ∧ x.result = 1#32

/-- `41_diff_engine.md` R143: the transmitted rows of DiffSwath(l) are exactly those at which shadow and live differ in
either column, under either mirror policy. -/
def Obligations.SentRowsAreTheDifferingRows : Prop :=
  ∀ (s : State) (l r : Nat), l ≤ 126 → l % 2 = 0 → r < 64 → rowSent (s.diffSwath l) r = swathDiffers s l r

/-- `41_diff_engine.md` R141: no command but SWATH_RENDER, PX_SWAP and the single-timer ACQ_SAMPLE that runs a tick, and
no micro-step but ROW_WR's and FRAME_DONE, changes live or which buffer is live. -/
def Obligations.LiveChangesOnlyByCommitOrSwap : Prop :=
  (∀ (i : Instr) (s t : State), exec i s = .next t → i ≠ .swathRender → i ≠ .pxSwap →
      (countsSamples s = true → s.tickcnt.toNat + 1 = tickSamplesOf s.cfg → ∀ v, i ≠ .acqSample v) →
      t.sh = s.sh ∧ ∀ c r, t.pixel t.lv c r = s.pixel s.lv c r) ∧
    ∀ s : State, (s.renderActive = true → s.schedState ≠ .frameDone) →
      (s.renderActive = true → s.schedState = .swathFlush → s.flushPhase = .rowWr → s.abort = true) →
      s.renderStep.sh = s.sh ∧ ∀ c r, s.renderStep.pixel s.renderStep.lv c r = s.pixel s.lv c r

/-! ### SampleRing -/

/-- `42_sample_ring.md` R161, R162: RING_PUSH advances the cursor by one modulo CAPACITY and stores the sample there,
every other entry and every other piece of state but RESULT unchanged; gated it faults BUSY. -/
def Obligations.RingPushStoresTheSample : Prop :=
  ∀ (s : State) (v : Sample),
    (s.schedEn = true ∨ s.renderActive = true → exec (.ringPush v) s = .next (afterBusy (.ringPush v) s)) ∧
    (s.schedEn = false → s.renderActive = false → Memory.wf s.ring = true →
      ∃ t, exec (.ringPush v) s = .next t ∧ t.cursor.toNat = (s.cursor.toNat + 1) % capacityOf s.cfg ∧
        (∀ i, Memory.read t.ring i = if i = t.cursor.toNat then v else Memory.read s.ring i) ∧
        t = { s with cursor := t.cursor, ring := t.ring, result := 0#32 })

/-- `42_sample_ring.md` R160, R163, R164: RING_AT returns the entry at (CURSOR + offset) mod CAPACITY for every s32
offset, and changes RESULT only. -/
def Obligations.RingAtReadsFromTheCursor : Prop :=
  ∀ (s : State) (o : Word32), exec (.ringAt o) s = .next { s with
    result := BitVec.ofNat 32
      (Memory.read s.ring (((s.cursor.toNat : Int) + o.toInt) % (capacityOf s.cfg : Int)).toNat).toNat }

/-- `42_sample_ring.md` R165: whole turns of the ring do not change which sample an offset reads. -/
def Obligations.WholeTurnsReadTheSameSample : Prop :=
  ∀ (s : State) (b : RingIndex) (k : Nat) (m : Int), k < capacityOf s.cfg →
    s.ringReadFrom b (-m * (capacityOf s.cfg : Int) - (k : Int)) = s.ringReadFrom b (-(k : Int))

/-- `42_sample_ring.md` R166: after n pushes since reset, CURSOR is n mod CAPACITY, RING_AT(-j) returns push number
n - j for j < min(n, CAPACITY), and 0 for n ≤ j < CAPACITY. -/
def Obligations.PushHistoryIsReadBack : Prop :=
  ∀ (c : Config) (p : List PortEvent) (vs : List Sample), vs ≠ [] →
    (vs.foldl State.ringPush (State.resetWith c p)).cursor.toNat = vs.length % capacityOf c ∧
      ∀ j, j < capacityOf c →
        ∃ t, exec (.ringAt (BitVec.ofInt 32 (-(j : Int)))) (vs.foldl State.ringPush (State.resetWith c p)) = .next t ∧
          t.result.toNat = if j < vs.length then (vs.getD (vs.length - 1 - j) 0#16).toNat else 0

/-! ### ZoomResampler -/

/-- `43_zoom_resampler.md` R180, R181: ZOOM_SET stores and returns the request clamped to the legal range of the zoom
mode, and changes ZOOM and RESULT only. -/
def Obligations.ZoomSetClampsTheRequest : Prop :=
  ∀ (s : State) (v : Word32), ∃ t, exec (.zoomSet v) s = .next t ∧
    t.zoom.toInt =
      (let lo : Int := if signedZoom s.cfg then -(minZoomOf s.cfg : Int) else 1
       if v.toInt < lo then lo else if (maxZoomOf s.cfg : Int) < v.toInt then (maxZoomOf s.cfg : Int) else v.toInt) ∧
    zoomLegal s.cfg t.zoom ∧ t = { s with zoom := t.zoom, result := t.zoom }

/-- `43_zoom_resampler.md` R182 to R185: ZOOM_OFFSET returns the offset of its column under ZOOM, for both zoom modes and
both offset policies, and changes RESULT only; for a column past 127 it faults RANGE. -/
def Obligations.ZoomOffsetReportsTheMapping : Prop :=
  ∀ (s : State) (col : Byte),
    (128 ≤ col.toNat → exec (.zoomOffset col) s = .next (afterRange (.zoomOffset col) s)) ∧
    (col.toNat < 128 → zoomLegal s.cfg s.zoom →
      ∃ t, exec (.zoomOffset col) s = .next t ∧
        t.result.toInt =
          -((if signedZoom s.cfg then
              if 2 ≤ s.zoom.toInt then ((col.toNat : Int) / s.zoom.toInt)
              else if s.zoom.toInt ≤ -2 then (col.toNat : Int) * -s.zoom.toInt
              else (col.toNat : Int)
            else (col.toNat : Int) * s.zoom.toInt) *
            (if s.cfg.offsetPolicy = .frameRelative then (divisorOf s.cfg : Int) else 1)) ∧
        t = { s with result := t.result })

/-- `43_zoom_resampler.md` R184, last sentence: no column reads ahead of its base or a whole rotation behind it. -/
def Obligations.OffsetsStayWithinOneRotation : Prop :=
  ∀ (c : Config) (z : Int) (col : Nat), zoomLow c ≤ z → z ≤ zoomHigh c → col < 128 →
    zoomOffset c z col ≤ 0 ∧ -(zoomOffset c z col) < (capacityOf c : Int)

/-- `43_zoom_resampler.md` R186: the offset does not rise with the column, and falls strictly except in SIGNED stretch,
where it is constant over runs of z columns. -/
def Obligations.OffsetsFallWithTheColumn : Prop :=
  ∀ (c : Config) (z : Int) (a b : Nat), zoomLow c ≤ z → z ≤ zoomHigh c → a < b → b < 128 →
    zoomOffset c z b ≤ zoomOffset c z a ∧
    (¬ (signedZoom c = true ∧ 2 ≤ z) → zoomOffset c z b < zoomOffset c z a) ∧
    (signedZoom c = true → 2 ≤ z → (a : Int) / z = (b : Int) / z → zoomOffset c z b = zoomOffset c z a)

/-- `43_zoom_resampler.md` R187: the span of a frame strictly increases with the zoom in UNSIGNED mode; in SIGNED mode it
strictly increases with |z| for z ≤ -1 and strictly decreases with z from 1 to 13; the order of columns is never
reversed. -/
def Obligations.SpanFollowsTheZoom : Prop :=
  ∀ (c : Config) (y z : Int), y < z →
    (signedZoom c = false → 1 ≤ y → frameSpan c y < frameSpan c z) ∧
    (signedZoom c = false →
      frameSpan c z = 127 * z * (if c.offsetPolicy = .frameRelative then (divisorOf c : Int) else 1)) ∧
    (signedZoom c = true → z ≤ -1 → frameSpan c z < frameSpan c y) ∧
    (signedZoom c = true → 1 ≤ y → z ≤ 13 → frameSpan c z < frameSpan c y) ∧
    (signedZoom c = true → 1 ≤ z → z ≤ 13 →
      frameSpan c z = 127 / z * (if c.offsetPolicy = .frameRelative then (divisorOf c : Int) else 1)) ∧
    (zoomLow c ≤ z → z ≤ zoomHigh c → ∀ a b : Nat, a ≤ b → b < 128 → zoomOffset c z b ≤ zoomOffset c z a)

/-! ### Register access -/

/-- `45_register_access.md` R250, R251: REG_READ returns the value of each register of the map and changes RESULT only;
for every other number it faults BAD_REG. -/
def Obligations.RegReadReturnsTheMap : Prop :=
  ∀ s : State,
    (∀ e ∈ registerMap s, exec (.regRead e.1) s = .next { s with result := BitVec.ofNat 32 e.2 }) ∧
    ∀ n : Byte, n ∉ (registerMap s).map Prod.fst → exec (.regRead n) s = .next (afterIllegal 6#8 (.regRead n) s)

/-- `45_register_access.md` R252, R253: REG_WRITE of CTRL writes SCHED_EN from bit 0, drops a pending tick request when
it clears it, and changes RESULT besides; every other number faults, BAD_REG before RO_WRITE. -/
def Obligations.RegWriteWritesCtrlOnly : Prop :=
  ∀ (s : State) (v : Word32),
    exec (.regWrite 0#8 v) s = .next { s with
      schedEn := v.getLsbD 0
      renderReq := if v.getLsbD 0 then s.renderReq else false
      result := 0#32 } ∧
    ∀ n : Byte, n ≠ 0#8 → exec (.regWrite n v) s =
      .next (afterIllegal (if n ∈ (registerMap s).map Prod.fst then 7#8 else 6#8) (.regWrite n v) s)

/-! ### Acquisition and the render tick -/

/-- `44_render_scheduler.md` R219, without a render tick: ACQ_SAMPLE first releases the bus if RIP is set (one END, RIP
cleared, ABORT set), then pushes the sample; in the single-timer configuration with the scheduler enabled it counts it.
Nothing else changes. -/
def Obligations.AcquisitionReleasesThenPushes : Prop :=
  ∀ (s : State) (v : Sample), Memory.wf s.ring = true → s.tickcnt.toNat < tickSamplesOf s.cfg →
    (s.cfg.schedMode = .singleTimer → s.schedEn = true → s.tickcnt.toNat + 1 ≠ tickSamplesOf s.cfg) →
    ∃ t, exec (.acqSample v) s = .next t ∧
      (s.rip = true → t.buslog = s.buslog ++ [0x6000#16] ∧ t.abort = true) ∧
      (s.rip = false → t.buslog = s.buslog ∧ t.abort = s.abort) ∧ t.rip = false ∧
      t.cursor.toNat = (s.cursor.toNat + 1) % capacityOf s.cfg ∧
      (∀ i, Memory.read t.ring i = if i = t.cursor.toNat then v else Memory.read s.ring i) ∧
      t.tickcnt.toNat =
        (if s.cfg.schedMode = .singleTimer ∧ s.schedEn = true then s.tickcnt.toNat + 1 else s.tickcnt.toNat) ∧
      t = { s with
        buslog := t.buslog, rip := false, abort := t.abort, cursor := t.cursor, ring := t.ring, tickcnt := t.tickcnt,
        result := 0#32 }

/-- `44_render_scheduler.md` R219, R220, with a render tick: the ACQ_SAMPLE that brings the count to TICK_SAMPLES pushes
its sample, resets the count and runs one whole render tick, TickStart and then RenderStep while RENDER_ACTIVE = 1, to
its end. -/
def Obligations.AcquisitionRunsTheTickToItsEnd : Prop :=
  ∀ (s : State) (v : Sample), Memory.wf s.ring = true → s.cfg.schedMode = .singleTimer → s.schedEn = true →
    s.tickcnt.toNat + 1 = tickSamplesOf s.cfg →
    ∃ (t : State) (n : Nat), exec (.acqSample v) s = .next t ∧
      (let start := { s.acquire v with tickcnt := 0#16, renderReq := true }.tickStart
       (∀ k < n, (State.renderStep^[k] start).renderActive = true) ∧
        t = { State.renderStep^[n] start with result := 0#32 }) ∧
      t.tickcnt = 0#16 ∧ t.renderActive = false ∧ t.renderReq = false ∧
      t.cursor.toNat = (s.cursor.toNat + 1) % capacityOf s.cfg ∧
      (∀ i, Memory.read t.ring i = if i = t.cursor.toNat then v else Memory.read s.ring i) ∧
      t.result = 0#32 ∧ t.cfg = s.cfg ∧ t.zoom = s.zoom ∧ t.schedEn = s.schedEn ∧ t.pending = s.pending ∧
      t.errIllegal = s.errIllegal ∧ t.errRange = s.errRange ∧ t.errBusy = s.errBusy ∧ t.faultInfo = s.faultInfo

/-- `44_render_scheduler.md` R204 to R206, R224: a render tick fills exactly COLS_PER_TICK columns, starting a new frame at
column 0 from IDLE. First, a tick that nothing interleaves with (R220). Second, the dual-timer tick, step by step,
whatever commands fall between its micro-steps: TickStart fixes the column at which it will end, no step but reset moves
that column, and the tick ends only there. -/
def Obligations.EveryTickFillsItsColumns : Prop :=
  (∀ s : State, SchedInv s → s.renderActive = false →
    s.runTickAtomic.schedCol.toNat =
      (if s.schedState = .idle then 0 else s.schedCol.toNat) + colsPerTickOf s.cfg) ∧
    ∀ s t : State, SchedInv s → s.cfg.schedMode = .dualTimer → (∀ rest, s.pending ≠ .reset :: rest) →
      step s = .next t →
      (s.renderActive = false → t.renderActive = true →
        tickEnd t = (if s.schedState = .idle then 0 else s.schedCol.toNat) + colsPerTickOf s.cfg) ∧
      (s.renderActive = true → tickEnd t = tickEnd s) ∧
      (s.renderActive = true → t.renderActive = false → t.schedCol.toNat = tickEnd s)

/-- `44_render_scheduler.md` R221: RENDER_TICK requests one tick if the scheduler is enabled, requests merging, and
changes RENDER_REQ and RESULT only; in the single-timer configuration it faults MODE. -/
def Obligations.RenderTickRequestsOneTick : Prop :=
  ∀ s : State,
    (s.cfg.schedMode = .dualTimer →
      exec .renderTick s = .next { s with renderReq := if s.schedEn then true else s.renderReq, result := 0#32 }) ∧
    (s.cfg.schedMode = .singleTimer → exec .renderTick s = .next (afterIllegal 3#8 .renderTick s))

/-! ### Render micro-steps

A turn of the RENDER agent is `renderStep` (`RenderAgentStepsWhenEnabled`), and a single-timer ACQ_SAMPLE that runs a tick
iterates `renderStep` (`AcquisitionRunsTheTickToItsEnd`). -/

/-- `44_render_scheduler.md` R204, R205: TickStart and FrameStartStep. -/
def Obligations.TickAndFrameStart : Prop :=
  ∀ s : State,
    (s.renderActive = false → s.renderReq = true → s.schedEn = true →
      ∃ t, s.renderStep = t ∧ t.tickLeft.toNat = colsPerTickOf s.cfg ∧
        t = { s with
          renderReq := false, renderActive := true, tickLeft := t.tickLeft
          schedState := if s.schedState = .idle then .frameStart else s.schedState }) ∧
    (s.renderActive = true → s.schedState = .frameStart →
      s.renderStep = { s with base := s.cursor, fzoom := s.zoom, schedCol := 0#8, schedState := .columnFill })

/-- `44_render_scheduler.md` R201, R202, R206: with no budget left the tick ends; otherwise the column at SCHED_COL gets
one lit pixel, at row 63 - floor(sample / ROW_SCALE) or 0 if that is negative, of the sample its offset reads, and
nothing else is drawn or cleared. -/
def Obligations.ColumnFillDrawsOnePixel : Prop :=
  ∀ s : State, s.renderActive = true → s.schedState = .columnFill →
    (s.tickLeft = 0#2 → s.renderStep = { s with renderActive := false }) ∧
    (s.tickLeft ≠ 0#2 → s.schedCol.toNat < 128 →
      ∃ t, s.renderStep = t ∧
        (let base : Nat := if s.cfg.offsetPolicy = .frameRelative then s.base.toNat else s.cursor.toNat
         let index : Int := (base : Int) + zoomOffset s.cfg s.fzoom.toInt s.schedCol.toNat
         let sample : Nat := (Memory.read s.ring (index % (capacityOf s.cfg : Int)).toNat).toNat
         ∀ b c r, t.pixel b c r =
          if b = s.sh ∧ c = s.schedCol.toNat ∧ r = 63 - sample / rowScaleOf s.cfg then true else s.pixel b c r) ∧
        t.schedCol.toNat = s.schedCol.toNat + 1 ∧ t.tickLeft.toNat + 1 = s.tickLeft.toNat ∧
        t.schedState = (if s.schedCol.toNat % 2 = 1 then .swathFlush else .columnFill) ∧
        t.flushPhase = (if s.schedCol.toNat % 2 = 1 then .diff else s.flushPhase) ∧
        t = { s with
          p0 := t.p0, p1 := t.p1, schedCol := t.schedCol, tickLeft := t.tickLeft, schedState := t.schedState,
          flushPhase := t.flushPhase })

/-- `44_render_scheduler.md` R207, R216: DiffStep computes the masks of the swath just filled; a blank swath is skipped
with no bus event, another goes on to BUS_CMD. -/
def Obligations.DiffStepPreparesOrSkipsTheSwath : Prop :=
  ∀ s : State, s.renderActive = true → s.schedState = .swathFlush →
    s.flushPhase = .diff → s.schedCol.toNat % 2 = 0 → 2 ≤ s.schedCol.toNat → s.schedCol.toNat ≤ 128 →
    ∃ t, s.renderStep = t ∧ masksOfSwath s (s.schedCol.toNat - 2) t.ops ∧
      t.opsLeft.toNat = s.schedCol.toNat - 2 ∧
      (if t.ops.el = 0#64 ∧ t.ops.wl = 0#64 ∧ t.ops.er = 0#64 ∧ t.ops.wr = 0#64 then
        t = { s with
          ops := t.ops, opsLeft := t.opsLeft, flushPhase := .diff
          schedState := if s.schedCol.toNat = 128 then .frameDone else .columnFill }
      else t = { s with ops := t.ops, opsLeft := t.opsLeft, flushRow := 0#7, flushPhase := .busCmd })

/-- `44_render_scheduler.md` R208: past BUS_CMD with ABORT set the swath restarts, with no bus event and no commit. -/
def Obligations.AbortStepRestartsTheSwath : Prop :=
  ∀ s : State, s.renderActive = true → s.schedState = .swathFlush →
    pastBusCmd s.flushPhase = true → s.abort = true →
    s.renderStep = { s with abort := false, flushPhase := .diff }

/-- `44_render_scheduler.md` R209, R211 to R213, R215, R216: the bus micro-steps that emit one event and go on; the row
of a SELROW is below 64. -/
def Obligations.BusStepsEmitInOrder : Prop :=
  ∀ s : State, s.renderActive = true → s.schedState = .swathFlush →
    (s.flushPhase = .busCmd →
      s.renderStep = { s with buslog := s.buslog ++ [0x1000#16], rip := true, flushPhase := .busSelCol }) ∧
    (s.flushPhase = .rowCmd → s.abort = false →
      s.renderStep = { s with buslog := s.buslog ++ [0x1000#16], flushPhase := .rowSel }) ∧
    (s.flushPhase = .rowSel → s.abort = false → s.flushRow.toNat < 64 →
      s.renderStep = { s with
        buslog := s.buslog ++ [BitVec.ofNat 16 (0x4000 + 64 * s.flushRow.toNat + s.flushRow.toNat)]
        flushPhase := .rowDph }) ∧
    (s.flushPhase = .rowDph → s.abort = false →
      s.renderStep = { s with buslog := s.buslog ++ [0x2000#16], flushPhase := .rowWr }) ∧
    (s.flushPhase = .busEnd → s.abort = false →
      s.renderStep = { s with
        buslog := s.buslog ++ [0x6000#16], rip := false, flushPhase := .diff
        schedState := if s.schedCol.toNat = 128 then .frameDone else .columnFill })

/-- `44_render_scheduler.md` R210, R214: BusSelColStep selects the swath, RowWrStep emits the row byte and commits the
row in the same step; both go on to the next transmitted row, or to BUS_END if none is left. -/
def Obligations.RowStepsSendAndCommit : Prop :=
  ∀ s : State, s.renderActive = true → s.schedState = .swathFlush → s.abort = false →
    s.opsLeft.toNat % 2 = 0 →
    (s.flushPhase = .busSelCol →
      ∃ t, s.renderStep = t ∧
        t.buslog = s.buslog ++ [BitVec.ofNat 16 (0x3000 + 64 * (s.opsLeft.toNat / 2) + s.opsLeft.toNat / 2)] ∧
        (∀ q < 64, q < t.flushRow.toNat → rowSent s.ops q = false) ∧
        ((t.flushRow.toNat < 64 ∧ rowSent s.ops t.flushRow.toNat = true ∧ t.flushPhase = .rowCmd) ∨
          (t.flushRow.toNat = 64 ∧ t.flushPhase = .busEnd)) ∧
        t = { s with buslog := t.buslog, flushRow := t.flushRow, flushPhase := t.flushPhase }) ∧
    (s.flushPhase = .rowWr → s.flushRow.toNat < 64 →
      ∃ t, s.renderStep = t ∧
        t.buslog = s.buslog ++ [BitVec.ofNat 16 (0x5000 + (if s.ops.wl.getLsbD s.flushRow.toNat then 0x0F else 0) +
          (if s.ops.wr.getLsbD s.flushRow.toNat then 0xF0 else 0))] ∧
        (∀ b c r, t.pixel b c r =
          if b = s.lv ∧ (c = s.opsLeft.toNat ∨ c = s.opsLeft.toNat + 1) ∧ r = s.flushRow.toNat
          then s.pixel s.sh c r else s.pixel b c r) ∧
        (∀ q < 64, s.flushRow.toNat < q → q < t.flushRow.toNat → rowSent s.ops q = false) ∧
        ((s.flushRow.toNat < t.flushRow.toNat ∧ t.flushRow.toNat < 64 ∧ rowSent s.ops t.flushRow.toNat = true ∧
            t.flushPhase = .rowCmd) ∨
          (t.flushRow.toNat = 64 ∧ t.flushPhase = .busEnd)) ∧
        t = { s with
          p0 := t.p0, p1 := t.p1, buslog := t.buslog, flushRow := t.flushRow, flushPhase := t.flushPhase })

/-- `44_render_scheduler.md` R217: FrameDoneStep swaps the roles, clears the new shadow under CLEAR_ON_SWAP and only
then, and ends frame and tick. -/
def Obligations.FrameDoneSwapsAndClears : Prop :=
  ∀ s : State, s.renderActive = true → s.schedState = .frameDone →
    ∃ t, s.renderStep = t ∧ t.shadowSel = !s.shadowSel ∧
      (∀ c, t.pixRead s.sh c = s.pixRead s.sh c) ∧
      (∀ c, t.pixRead s.lv c = if s.cfg.clearPolicy = .clearOnSwap then 0#64 else s.pixRead s.lv c) ∧
      t = { s with
        p0 := t.p0, p1 := t.p1, shadowSel := t.shadowSel, schedState := .idle, renderActive := false }

/-! ### Faults -/

/-- `60_exceptions.md` R260, R261: ERR_BUSY is set only by a gated writer while gated, ERR_RANGE only by the five commands
with a range and only for operands out of it, ERR_ILLEGAL only by RENDER_TICK in the single-timer configuration, REG_READ
of an undefined number, and REG_WRITE of a number other than CTRL's. -/
def Obligations.FaultsOnlyAsTheTableAllows : Prop :=
  ∀ (i : Instr) (s t : State), exec i s = .next t →
    (t.errBusy ≠ s.errBusy → isGatedWriter i = true ∧ (s.schedEn = true ∨ s.renderActive = true)) ∧
    (t.errRange ≠ s.errRange → rangeViolation i = true) ∧
    (t.errIllegal ≠ s.errIllegal →
      (i = .renderTick ∧ s.cfg.schedMode = .singleTimer) ∨
        (∃ n, i = .regRead n ∧ n ∉ (registerMap s).map Prod.fst) ∨ ∃ n v, i = .regWrite n v ∧ n ≠ 0#8)

/-- `10_state.md` R27, R28: no step but reset clears an error bit or overwrites a recorded fault. -/
def Obligations.FaultRecordIsStickyUntilReset : Prop :=
  ∀ s t : State, step s = .next t → (∀ rest, s.pending ≠ .reset :: rest) →
    (s.errIllegal = true → t.errIllegal = true) ∧ (s.errRange = true → t.errRange = true) ∧
      (s.errBusy = true → t.errBusy = true) ∧ (s.faultInfo.code ≠ 0#8 → t.faultInfo = s.faultInfo)

/-! ### Invariants -/

/-- `10_state.md` R25, R26, R34: every step keeps the ranges of the ring, CURSOR and BASE. The canonical form of the sparse
list that holds the ring (`RingInv.ringWf`) is the model's, no rule of the spec (DESIGN CHOICE, log 6); every step keeps
it too. -/
def Obligations.StepsKeepTheRing : Prop := ∀ s t : State, RingInv s → step s = .next t → RingInv t

/-- `10_state.md` R32, R33: every step keeps ZOOM and FZOOM within the legal range. -/
def Obligations.StepsKeepTheZoomLegal : Prop := ∀ s t : State, ZoomInv s → step s = .next t → ZoomInv t

/-- `10_state.md` R27, R28, `60_exceptions.md` R260: every step keeps the fault record and the error bits in agreement. -/
def Obligations.StepsKeepTheFaultRecordSound : Prop := ∀ s t : State, FaultInv s → step s = .next t → FaultInv t

/-- `10_state.md` R35 to R38, `44_render_scheduler.md` R204 to R220: every step keeps the scheduler's micro-state and the
sample count legal. -/
def Obligations.StepsKeepTheScheduler : Prop :=
  ∀ s t : State, SchedInv s → TimerInv s → step s = .next t → SchedInv t ∧ TimerInv t

/-- `10_state.md` R39, R41, `44_render_scheduler.md` R207 to R216: every step keeps the swath flush and the bus flags in
agreement. -/
def Obligations.StepsKeepTheFlush : Prop :=
  ∀ s t : State, SchedInv s → TimerInv s → FlushInv s → step s = .next t → FlushInv t

/-- `44_render_scheduler.md` R206, R208, R214, R217, `41_diff_engine.md` R142: while the scheduler owns the buffers, every
step keeps each flushed column of the frame equal in shadow and live, and the rows of the current swath that still
differ exactly the rows still to send. So at FRAME_DONE the two buffers agree, preempted or not. -/
def Obligations.StepsKeepTheFrameInAgreement : Prop :=
  ∀ s t : State, SchedInv s → TimerInv s → FlushInv s → FrameInv s → (s.schedEn = true ∨ s.renderActive = true) →
    step s = .next t → FrameInv t

/-- `30_encoding.md` R95, R96, `44_render_scheduler.md` R222: every step keeps BUSLOG legal and RIP = 1 exactly while a
transaction stands open on the bus. -/
def Obligations.StepsKeepTheBusLog : Prop :=
  ∀ s t : State, SchedInv s → TimerInv s → FlushInv s → BusInv s → step s = .next t → BusInv t

/-- `70_reset_and_hazards.md` R292: the state after reset meets every invariant, in every configuration. -/
def Obligations.ResetMeetsTheInvariants : Prop :=
  (∀ (c : Config) (p : List PortEvent), BlockInv (State.resetWith c p) ∧ FrameInv (State.resetWith c p)) ∧
    BlockInv State.reset ∧ FrameInv State.reset

/-! ### The whole machine -/

/-- `44_render_scheduler.md` R208, R219, R223: when acquisition preempts a swath in any phase from BUS_SELCOL to BUS_END, it
releases the bus, the swath restarts without a bus event, and the restarted diff covers exactly the rows that still
differ, which are the transmitted rows whose bytes were not yet written; right after row r was written, that is every
row that differed but row r. -/
def Obligations.PreemptedSwathResendsTheRest : Prop :=
  (∀ (s : State) (v : Sample), s.cfg.schedMode = .dualTimer → SchedInv s → FlushInv s → FrameInv s →
    s.renderActive = true → s.schedState = .swathFlush → pastBusCmd s.flushPhase = true → s.abort = false →
    ∃ u w x, exec (.acqSample v) s = .next u ∧ u.buslog = s.buslog ++ [0x6000#16] ∧ u.rip = false ∧ u.abort = true ∧
      renderTurn u = .next w ∧ w.buslog = u.buslog ∧ renderTurn w = .next x ∧ x.opsLeft = s.opsLeft ∧
      ∀ q < 64, rowSent x.ops q = swathDiffers s s.opsLeft.toNat q ∧
        rowSent x.ops q = (rowSent s.ops q && notYetWritten s q)) ∧
    ∀ (s : State) (v : Sample), s.cfg.schedMode = .dualTimer → SchedInv s → FlushInv s → s.renderActive = true →
      s.schedState = .swathFlush → s.flushPhase = .rowWr → s.abort = false →
      ∃ t u w x, renderTurn s = .next t ∧ exec (.acqSample v) t = .next u ∧ renderTurn u = .next w ∧
        renderTurn w = .next x ∧ x.opsLeft = s.opsLeft ∧
        ∀ q < 64, rowSent x.ops q = (swathDiffers s s.opsLeft.toNat q && decide (q ≠ s.flushRow.toNat))

/-- `70_reset_and_hazards.md` R304, `60_exceptions.md` R263, R264: the block never halts: in every legal scheduler state
a step gives a next state, whatever arrives. -/
def Obligations.TheBlockNeverStops : Prop := ∀ s : State, SchedInv s → ∃ t, step s = .next t

/-- `10_state.md` R42: BUSLOG is append-only: every step but reset only adds events at its end. -/
def Obligations.BusLogOnlyGrows : Prop :=
  ∀ s t : State, step s = .next t → (∀ rest, s.pending ≠ .reset :: rest) → ∃ more, t.buslog = s.buslog ++ more

/-- `10_state.md` R20, R30, R31: no step, reset included, changes the configuration. -/
def Obligations.ConfigurationNeverChanges : Prop := ∀ s t : State, step s = .next t → t.cfg = s.cfg

/-- `10_state.md` R41, R43, `60_exceptions.md` R268: no command but the single-timer ACQ_SAMPLE that runs a tick changes the
render micro-state, FZOOM or BASE, and no command but ACQ_SAMPLE changes RIP or ABORT. What is still to arrive is never
changed by a command (the model's field, log 1). -/
def Obligations.CommandsLeaveTheMicroStateAlone : Prop :=
  ∀ (i : Instr) (s t : State), exec i s = .next t →
    ((countsSamples s = true → s.tickcnt.toNat + 1 = tickSamplesOf s.cfg → ∀ v, i ≠ .acqSample v) →
      t.schedState = s.schedState ∧ t.schedCol = s.schedCol ∧ t.tickLeft = s.tickLeft ∧ t.flushPhase = s.flushPhase ∧
        t.flushRow = s.flushRow ∧ t.renderActive = s.renderActive ∧ t.base = s.base ∧ t.fzoom = s.fzoom) ∧
    ((∀ v, i ≠ .acqSample v) → t.rip = s.rip ∧ t.abort = s.abort) ∧ t.pending = s.pending

/-- `20_memory.md` R69: the six read commands change nothing but RESULT, and a repeat returns the same value. -/
def Obligations.ReadsChangeOnlyResult : Prop :=
  ∀ (i : Instr) (s : State), i.wellFormed = true →
    ((∃ o, i = .ringAt o) ∨ (∃ c r, i = .pxPeek c r) ∨ (∃ c r, i = .pxPeekLive c r) ∨ i = .opsIsBlank ∨
      (∃ c, i = .zoomOffset c) ∨ ∃ n, i = .regRead n) →
    ∃ t, exec i s = .next t ∧ t = { s with result := t.result } ∧ exec i t = .next t

/-- `44_render_scheduler.md` R227: in the single-timer configuration every step, from a legal state, leaves RIP and ABORT 0,
and finds them 0, so no ACQ_SAMPLE ever finds RIP = 1. -/
def Obligations.SingleTimerNeverAborts : Prop :=
  ∀ s t : State, SchedInv s → TimerInv s → FlushInv s → s.cfg.schedMode = .singleTimer → step s = .next t →
    (s.rip = false ∧ s.abort = false) ∧ t.rip = false ∧ t.abort = false

/-- `00_scope.md` R7 to R10, `93_implementation_defined.md` section 2: a block is built exactly for legal parameters, its
configuration shows them, and its CAPACITY is 128 * DIVISOR * ZMAX. -/
def Obligations.LegalParametersBuildTheirBlock : Prop :=
  ∀ (p : Params) (ev : List PortEvent),
    (if (1 ≤ p.maxZoom ∧ p.maxZoom ≤ 255 ∧ (p.signed = true → p.maxZoom ≤ 13)) ∧ (1 ≤ p.minZoom ∧ p.minZoom ≤ 255) ∧
        (1 ≤ p.divisor ∧ p.divisor ≤ 255) ∧ (1 ≤ p.rowScale ∧ p.rowScale ≤ 65535) ∧
        (1 ≤ p.tickSamples ∧ p.tickSamples ≤ 65535) ∧ (p.colsPerTick = 1 ∨ p.colsPerTick = 2)
      then
        ∃ t, buildBlock p ev = .next t ∧ maxZoomOf t.cfg = p.maxZoom ∧ minZoomOf t.cfg = p.minZoom ∧
          divisorOf t.cfg = p.divisor ∧ rowScaleOf t.cfg = p.rowScale ∧ tickSamplesOf t.cfg = p.tickSamples ∧
          colsPerTickOf t.cfg = p.colsPerTick ∧ signedZoom t.cfg = p.signed ∧ t.cfg.clearPolicy = p.clearPolicy ∧
          t.cfg.mirror = p.mirror ∧ t.cfg.schedMode = p.schedMode ∧ t.cfg.offsetPolicy = p.offsetPolicy ∧
          capacityOf t.cfg = 128 * p.divisor * (if p.signed then max p.maxZoom p.minZoom else p.maxZoom)
      else buildBlock p ev = .refused .illegalConfiguration)

/-! ### Endless runs -/

/-- `70_reset_and_hazards.md` R300, the two ways an endless host stream stops progress. Without weak fairness, host commands
can postpone the RENDER agent's enabled step for ever. With it, an ACQ_SAMPLE in every transmission before its first row
is written restarts the swath for ever, and no pixel is ever committed. Endless runs are `IsRun`, outside the state
(log 11). -/
def Obligations.EndlessStreamsCanStopProgress : Prop :=
  (∀ s : State, s.renderEnabled = true →
    ∃ σ events, σ 0 = s ∧ IsRun σ events ∧ ¬ WeaklyFair σ events ∧ (∀ n, ∃ cw, events n = .command cw) ∧
      ∀ n, (σ n).renderEnabled = true ∧ σ n = { s with result := (σ n).result }) ∧
    ∀ (s : State) (samples : Nat → Sample), s.cfg.schedMode = .dualTimer → SchedInv s → FlushInv s →
      s.renderActive = true → s.schedState = .swathFlush → s.flushPhase = .diff →
      (∃ r < 64, swathDiffers s s.flushLeft r = true) →
      ∃ σ, σ 0 = s ∧ IsFairRun σ (preemptionStream samples) ∧
        ∀ n, (σ n).renderActive = true ∧ (σ n).schedState = .swathFlush ∧ (σ n).schedCol = s.schedCol ∧
          ∀ b c r, (σ n).pixel b c r = s.pixel b c r

/-- `70_reset_and_hazards.md` R300: in a fair endless run of the dual-timer configuration without reset, if every ACQ_SAMPLE
that forces a release comes after the first row of its transmission was written, the swath completes, with each restart
paid for by a committed row, so after at most 64 of them. Endless runs are `IsRun`, outside the state (log 11). -/
def Obligations.FairRunsCompleteTheSwath : Prop :=
  ∀ (σ : Nat → State) (events : Nat → PortEvent), IsFairRun σ events → (∀ n, events n ≠ .reset) →
    (σ 0).cfg.schedMode = .dualTimer → SchedInv (σ 0) → FlushInv (σ 0) → (σ 0).renderActive = true →
    (σ 0).schedState = .swathFlush → (σ 0).flushPhase = .diff →
    (∀ n, isAcquisition (events n) = true → (σ n).rip = true → rowWritten (σ n) = true) →
    ∃ m, (∀ k < m, (σ k).schedState = .swathFlush) ∧ (σ m).schedState ≠ .swathFlush ∧
      rowsLeft (σ m) (σ 0).flushLeft = 0 ∧ restartsBefore σ events m ≤ 64 ∧
      ∀ k ≤ m, restartsBefore σ events k + rowsLeft (σ k) (σ 0).flushLeft ≤ rowsLeft (σ 0) (σ 0).flushLeft
end

