-- ==== Sys2Proof/Laws/State.lean ====
section
/-! SUPPORT. One lemma per field per state update, each true by rfl, so that no proof unfolds a record update. -/

namespace Sys2Proof.Machine

open Sys2Proof

variable (s : State)

/-! ### pixWrite -/

@[simp] theorem State.pixWrite_cfg (b : Bool) (c : Nat) (v : Column) : (s.pixWrite b c v).cfg = s.cfg := rfl
@[simp] theorem State.pixWrite_p0 (b : Bool) (c : Nat) (v : Column) : (s.pixWrite b c v).p0 = (if b then s.p0 else PixBuf.write s.p0 c v) := rfl
@[simp] theorem State.pixWrite_p1 (b : Bool) (c : Nat) (v : Column) : (s.pixWrite b c v).p1 = (if b then PixBuf.write s.p1 c v else s.p1) := rfl
@[simp] theorem State.pixWrite_shadowSel (b : Bool) (c : Nat) (v : Column) : (s.pixWrite b c v).shadowSel = s.shadowSel := rfl
@[simp] theorem State.pixWrite_ops (b : Bool) (c : Nat) (v : Column) : (s.pixWrite b c v).ops = s.ops := rfl
@[simp] theorem State.pixWrite_opsLeft (b : Bool) (c : Nat) (v : Column) : (s.pixWrite b c v).opsLeft = s.opsLeft := rfl
@[simp] theorem State.pixWrite_ring (b : Bool) (c : Nat) (v : Column) : (s.pixWrite b c v).ring = s.ring := rfl
@[simp] theorem State.pixWrite_cursor (b : Bool) (c : Nat) (v : Column) : (s.pixWrite b c v).cursor = s.cursor := rfl
@[simp] theorem State.pixWrite_errIllegal (b : Bool) (c : Nat) (v : Column) : (s.pixWrite b c v).errIllegal = s.errIllegal := rfl
@[simp] theorem State.pixWrite_errRange (b : Bool) (c : Nat) (v : Column) : (s.pixWrite b c v).errRange = s.errRange := rfl
@[simp] theorem State.pixWrite_errBusy (b : Bool) (c : Nat) (v : Column) : (s.pixWrite b c v).errBusy = s.errBusy := rfl
@[simp] theorem State.pixWrite_faultInfo (b : Bool) (c : Nat) (v : Column) : (s.pixWrite b c v).faultInfo = s.faultInfo := rfl
@[simp] theorem State.pixWrite_schedEn (b : Bool) (c : Nat) (v : Column) : (s.pixWrite b c v).schedEn = s.schedEn := rfl
@[simp] theorem State.pixWrite_zoom (b : Bool) (c : Nat) (v : Column) : (s.pixWrite b c v).zoom = s.zoom := rfl
@[simp] theorem State.pixWrite_fzoom (b : Bool) (c : Nat) (v : Column) : (s.pixWrite b c v).fzoom = s.fzoom := rfl
@[simp] theorem State.pixWrite_base (b : Bool) (c : Nat) (v : Column) : (s.pixWrite b c v).base = s.base := rfl
@[simp] theorem State.pixWrite_schedState (b : Bool) (c : Nat) (v : Column) : (s.pixWrite b c v).schedState = s.schedState := rfl
@[simp] theorem State.pixWrite_schedCol (b : Bool) (c : Nat) (v : Column) : (s.pixWrite b c v).schedCol = s.schedCol := rfl
@[simp] theorem State.pixWrite_tickLeft (b : Bool) (c : Nat) (v : Column) : (s.pixWrite b c v).tickLeft = s.tickLeft := rfl
@[simp] theorem State.pixWrite_tickcnt (b : Bool) (c : Nat) (v : Column) : (s.pixWrite b c v).tickcnt = s.tickcnt := rfl
@[simp] theorem State.pixWrite_flushPhase (b : Bool) (c : Nat) (v : Column) : (s.pixWrite b c v).flushPhase = s.flushPhase := rfl
@[simp] theorem State.pixWrite_flushRow (b : Bool) (c : Nat) (v : Column) : (s.pixWrite b c v).flushRow = s.flushRow := rfl
@[simp] theorem State.pixWrite_renderActive (b : Bool) (c : Nat) (v : Column) : (s.pixWrite b c v).renderActive = s.renderActive := rfl
@[simp] theorem State.pixWrite_renderReq (b : Bool) (c : Nat) (v : Column) : (s.pixWrite b c v).renderReq = s.renderReq := rfl
@[simp] theorem State.pixWrite_rip (b : Bool) (c : Nat) (v : Column) : (s.pixWrite b c v).rip = s.rip := rfl
@[simp] theorem State.pixWrite_abort (b : Bool) (c : Nat) (v : Column) : (s.pixWrite b c v).abort = s.abort := rfl
@[simp] theorem State.pixWrite_result (b : Bool) (c : Nat) (v : Column) : (s.pixWrite b c v).result = s.result := rfl
@[simp] theorem State.pixWrite_buslog (b : Bool) (c : Nat) (v : Column) : (s.pixWrite b c v).buslog = s.buslog := rfl
@[simp] theorem State.pixWrite_pending (b : Bool) (c : Nat) (v : Column) : (s.pixWrite b c v).pending = s.pending := rfl

/-! ### pixClear -/

@[simp] theorem State.pixClear_cfg (b : Bool) : (s.pixClear b).cfg = s.cfg := rfl
@[simp] theorem State.pixClear_p0 (b : Bool) : (s.pixClear b).p0 = (if b then s.p0 else PixBuf.blank) := rfl
@[simp] theorem State.pixClear_p1 (b : Bool) : (s.pixClear b).p1 = (if b then PixBuf.blank else s.p1) := rfl
@[simp] theorem State.pixClear_shadowSel (b : Bool) : (s.pixClear b).shadowSel = s.shadowSel := rfl
@[simp] theorem State.pixClear_ops (b : Bool) : (s.pixClear b).ops = s.ops := rfl
@[simp] theorem State.pixClear_opsLeft (b : Bool) : (s.pixClear b).opsLeft = s.opsLeft := rfl
@[simp] theorem State.pixClear_ring (b : Bool) : (s.pixClear b).ring = s.ring := rfl
@[simp] theorem State.pixClear_cursor (b : Bool) : (s.pixClear b).cursor = s.cursor := rfl
@[simp] theorem State.pixClear_errIllegal (b : Bool) : (s.pixClear b).errIllegal = s.errIllegal := rfl
@[simp] theorem State.pixClear_errRange (b : Bool) : (s.pixClear b).errRange = s.errRange := rfl
@[simp] theorem State.pixClear_errBusy (b : Bool) : (s.pixClear b).errBusy = s.errBusy := rfl
@[simp] theorem State.pixClear_faultInfo (b : Bool) : (s.pixClear b).faultInfo = s.faultInfo := rfl
@[simp] theorem State.pixClear_schedEn (b : Bool) : (s.pixClear b).schedEn = s.schedEn := rfl
@[simp] theorem State.pixClear_zoom (b : Bool) : (s.pixClear b).zoom = s.zoom := rfl
@[simp] theorem State.pixClear_fzoom (b : Bool) : (s.pixClear b).fzoom = s.fzoom := rfl
@[simp] theorem State.pixClear_base (b : Bool) : (s.pixClear b).base = s.base := rfl
@[simp] theorem State.pixClear_schedState (b : Bool) : (s.pixClear b).schedState = s.schedState := rfl
@[simp] theorem State.pixClear_schedCol (b : Bool) : (s.pixClear b).schedCol = s.schedCol := rfl
@[simp] theorem State.pixClear_tickLeft (b : Bool) : (s.pixClear b).tickLeft = s.tickLeft := rfl
@[simp] theorem State.pixClear_tickcnt (b : Bool) : (s.pixClear b).tickcnt = s.tickcnt := rfl
@[simp] theorem State.pixClear_flushPhase (b : Bool) : (s.pixClear b).flushPhase = s.flushPhase := rfl
@[simp] theorem State.pixClear_flushRow (b : Bool) : (s.pixClear b).flushRow = s.flushRow := rfl
@[simp] theorem State.pixClear_renderActive (b : Bool) : (s.pixClear b).renderActive = s.renderActive := rfl
@[simp] theorem State.pixClear_renderReq (b : Bool) : (s.pixClear b).renderReq = s.renderReq := rfl
@[simp] theorem State.pixClear_rip (b : Bool) : (s.pixClear b).rip = s.rip := rfl
@[simp] theorem State.pixClear_abort (b : Bool) : (s.pixClear b).abort = s.abort := rfl
@[simp] theorem State.pixClear_result (b : Bool) : (s.pixClear b).result = s.result := rfl
@[simp] theorem State.pixClear_buslog (b : Bool) : (s.pixClear b).buslog = s.buslog := rfl
@[simp] theorem State.pixClear_pending (b : Bool) : (s.pixClear b).pending = s.pending := rfl

/-! ### swapRoles -/

@[simp] theorem State.swapRoles_cfg : (s.swapRoles).cfg = s.cfg := rfl
@[simp] theorem State.swapRoles_p0 : (s.swapRoles).p0 = s.p0 := rfl
@[simp] theorem State.swapRoles_p1 : (s.swapRoles).p1 = s.p1 := rfl
@[simp] theorem State.swapRoles_shadowSel : (s.swapRoles).shadowSel = !s.shadowSel := rfl
@[simp] theorem State.swapRoles_ops : (s.swapRoles).ops = s.ops := rfl
@[simp] theorem State.swapRoles_opsLeft : (s.swapRoles).opsLeft = s.opsLeft := rfl
@[simp] theorem State.swapRoles_ring : (s.swapRoles).ring = s.ring := rfl
@[simp] theorem State.swapRoles_cursor : (s.swapRoles).cursor = s.cursor := rfl
@[simp] theorem State.swapRoles_errIllegal : (s.swapRoles).errIllegal = s.errIllegal := rfl
@[simp] theorem State.swapRoles_errRange : (s.swapRoles).errRange = s.errRange := rfl
@[simp] theorem State.swapRoles_errBusy : (s.swapRoles).errBusy = s.errBusy := rfl
@[simp] theorem State.swapRoles_faultInfo : (s.swapRoles).faultInfo = s.faultInfo := rfl
@[simp] theorem State.swapRoles_schedEn : (s.swapRoles).schedEn = s.schedEn := rfl
@[simp] theorem State.swapRoles_zoom : (s.swapRoles).zoom = s.zoom := rfl
@[simp] theorem State.swapRoles_fzoom : (s.swapRoles).fzoom = s.fzoom := rfl
@[simp] theorem State.swapRoles_base : (s.swapRoles).base = s.base := rfl
@[simp] theorem State.swapRoles_schedState : (s.swapRoles).schedState = s.schedState := rfl
@[simp] theorem State.swapRoles_schedCol : (s.swapRoles).schedCol = s.schedCol := rfl
@[simp] theorem State.swapRoles_tickLeft : (s.swapRoles).tickLeft = s.tickLeft := rfl
@[simp] theorem State.swapRoles_tickcnt : (s.swapRoles).tickcnt = s.tickcnt := rfl
@[simp] theorem State.swapRoles_flushPhase : (s.swapRoles).flushPhase = s.flushPhase := rfl
@[simp] theorem State.swapRoles_flushRow : (s.swapRoles).flushRow = s.flushRow := rfl
@[simp] theorem State.swapRoles_renderActive : (s.swapRoles).renderActive = s.renderActive := rfl
@[simp] theorem State.swapRoles_renderReq : (s.swapRoles).renderReq = s.renderReq := rfl
@[simp] theorem State.swapRoles_rip : (s.swapRoles).rip = s.rip := rfl
@[simp] theorem State.swapRoles_abort : (s.swapRoles).abort = s.abort := rfl
@[simp] theorem State.swapRoles_result : (s.swapRoles).result = s.result := rfl
@[simp] theorem State.swapRoles_buslog : (s.swapRoles).buslog = s.buslog := rfl
@[simp] theorem State.swapRoles_pending : (s.swapRoles).pending = s.pending := rfl

/-! ### setResult -/

@[simp] theorem State.setResult_cfg (v : Word32) : (s.setResult v).cfg = s.cfg := rfl
@[simp] theorem State.setResult_p0 (v : Word32) : (s.setResult v).p0 = s.p0 := rfl
@[simp] theorem State.setResult_p1 (v : Word32) : (s.setResult v).p1 = s.p1 := rfl
@[simp] theorem State.setResult_shadowSel (v : Word32) : (s.setResult v).shadowSel = s.shadowSel := rfl
@[simp] theorem State.setResult_ops (v : Word32) : (s.setResult v).ops = s.ops := rfl
@[simp] theorem State.setResult_opsLeft (v : Word32) : (s.setResult v).opsLeft = s.opsLeft := rfl
@[simp] theorem State.setResult_ring (v : Word32) : (s.setResult v).ring = s.ring := rfl
@[simp] theorem State.setResult_cursor (v : Word32) : (s.setResult v).cursor = s.cursor := rfl
@[simp] theorem State.setResult_errIllegal (v : Word32) : (s.setResult v).errIllegal = s.errIllegal := rfl
@[simp] theorem State.setResult_errRange (v : Word32) : (s.setResult v).errRange = s.errRange := rfl
@[simp] theorem State.setResult_errBusy (v : Word32) : (s.setResult v).errBusy = s.errBusy := rfl
@[simp] theorem State.setResult_faultInfo (v : Word32) : (s.setResult v).faultInfo = s.faultInfo := rfl
@[simp] theorem State.setResult_schedEn (v : Word32) : (s.setResult v).schedEn = s.schedEn := rfl
@[simp] theorem State.setResult_zoom (v : Word32) : (s.setResult v).zoom = s.zoom := rfl
@[simp] theorem State.setResult_fzoom (v : Word32) : (s.setResult v).fzoom = s.fzoom := rfl
@[simp] theorem State.setResult_base (v : Word32) : (s.setResult v).base = s.base := rfl
@[simp] theorem State.setResult_schedState (v : Word32) : (s.setResult v).schedState = s.schedState := rfl
@[simp] theorem State.setResult_schedCol (v : Word32) : (s.setResult v).schedCol = s.schedCol := rfl
@[simp] theorem State.setResult_tickLeft (v : Word32) : (s.setResult v).tickLeft = s.tickLeft := rfl
@[simp] theorem State.setResult_tickcnt (v : Word32) : (s.setResult v).tickcnt = s.tickcnt := rfl
@[simp] theorem State.setResult_flushPhase (v : Word32) : (s.setResult v).flushPhase = s.flushPhase := rfl
@[simp] theorem State.setResult_flushRow (v : Word32) : (s.setResult v).flushRow = s.flushRow := rfl
@[simp] theorem State.setResult_renderActive (v : Word32) : (s.setResult v).renderActive = s.renderActive := rfl
@[simp] theorem State.setResult_renderReq (v : Word32) : (s.setResult v).renderReq = s.renderReq := rfl
@[simp] theorem State.setResult_rip (v : Word32) : (s.setResult v).rip = s.rip := rfl
@[simp] theorem State.setResult_abort (v : Word32) : (s.setResult v).abort = s.abort := rfl
@[simp] theorem State.setResult_result (v : Word32) : (s.setResult v).result = v := rfl
@[simp] theorem State.setResult_buslog (v : Word32) : (s.setResult v).buslog = s.buslog := rfl
@[simp] theorem State.setResult_pending (v : Word32) : (s.setResult v).pending = s.pending := rfl

/-! ### setOps -/

@[simp] theorem State.setOps_cfg (o : ColumnOperations) (l : BitVec 7) : (s.setOps o l).cfg = s.cfg := rfl
@[simp] theorem State.setOps_p0 (o : ColumnOperations) (l : BitVec 7) : (s.setOps o l).p0 = s.p0 := rfl
@[simp] theorem State.setOps_p1 (o : ColumnOperations) (l : BitVec 7) : (s.setOps o l).p1 = s.p1 := rfl
@[simp] theorem State.setOps_shadowSel (o : ColumnOperations) (l : BitVec 7) : (s.setOps o l).shadowSel = s.shadowSel := rfl
@[simp] theorem State.setOps_ops (o : ColumnOperations) (l : BitVec 7) : (s.setOps o l).ops = o := rfl
@[simp] theorem State.setOps_opsLeft (o : ColumnOperations) (l : BitVec 7) : (s.setOps o l).opsLeft = l := rfl
@[simp] theorem State.setOps_ring (o : ColumnOperations) (l : BitVec 7) : (s.setOps o l).ring = s.ring := rfl
@[simp] theorem State.setOps_cursor (o : ColumnOperations) (l : BitVec 7) : (s.setOps o l).cursor = s.cursor := rfl
@[simp] theorem State.setOps_errIllegal (o : ColumnOperations) (l : BitVec 7) : (s.setOps o l).errIllegal = s.errIllegal := rfl
@[simp] theorem State.setOps_errRange (o : ColumnOperations) (l : BitVec 7) : (s.setOps o l).errRange = s.errRange := rfl
@[simp] theorem State.setOps_errBusy (o : ColumnOperations) (l : BitVec 7) : (s.setOps o l).errBusy = s.errBusy := rfl
@[simp] theorem State.setOps_faultInfo (o : ColumnOperations) (l : BitVec 7) : (s.setOps o l).faultInfo = s.faultInfo := rfl
@[simp] theorem State.setOps_schedEn (o : ColumnOperations) (l : BitVec 7) : (s.setOps o l).schedEn = s.schedEn := rfl
@[simp] theorem State.setOps_zoom (o : ColumnOperations) (l : BitVec 7) : (s.setOps o l).zoom = s.zoom := rfl
@[simp] theorem State.setOps_fzoom (o : ColumnOperations) (l : BitVec 7) : (s.setOps o l).fzoom = s.fzoom := rfl
@[simp] theorem State.setOps_base (o : ColumnOperations) (l : BitVec 7) : (s.setOps o l).base = s.base := rfl
@[simp] theorem State.setOps_schedState (o : ColumnOperations) (l : BitVec 7) : (s.setOps o l).schedState = s.schedState := rfl
@[simp] theorem State.setOps_schedCol (o : ColumnOperations) (l : BitVec 7) : (s.setOps o l).schedCol = s.schedCol := rfl
@[simp] theorem State.setOps_tickLeft (o : ColumnOperations) (l : BitVec 7) : (s.setOps o l).tickLeft = s.tickLeft := rfl
@[simp] theorem State.setOps_tickcnt (o : ColumnOperations) (l : BitVec 7) : (s.setOps o l).tickcnt = s.tickcnt := rfl
@[simp] theorem State.setOps_flushPhase (o : ColumnOperations) (l : BitVec 7) : (s.setOps o l).flushPhase = s.flushPhase := rfl
@[simp] theorem State.setOps_flushRow (o : ColumnOperations) (l : BitVec 7) : (s.setOps o l).flushRow = s.flushRow := rfl
@[simp] theorem State.setOps_renderActive (o : ColumnOperations) (l : BitVec 7) : (s.setOps o l).renderActive = s.renderActive := rfl
@[simp] theorem State.setOps_renderReq (o : ColumnOperations) (l : BitVec 7) : (s.setOps o l).renderReq = s.renderReq := rfl
@[simp] theorem State.setOps_rip (o : ColumnOperations) (l : BitVec 7) : (s.setOps o l).rip = s.rip := rfl
@[simp] theorem State.setOps_abort (o : ColumnOperations) (l : BitVec 7) : (s.setOps o l).abort = s.abort := rfl
@[simp] theorem State.setOps_result (o : ColumnOperations) (l : BitVec 7) : (s.setOps o l).result = s.result := rfl
@[simp] theorem State.setOps_buslog (o : ColumnOperations) (l : BitVec 7) : (s.setOps o l).buslog = s.buslog := rfl
@[simp] theorem State.setOps_pending (o : ColumnOperations) (l : BitVec 7) : (s.setOps o l).pending = s.pending := rfl

/-! ### emit -/

@[simp] theorem State.emit_cfg (ev : BusEvent) : (s.emit ev).cfg = s.cfg := rfl
@[simp] theorem State.emit_p0 (ev : BusEvent) : (s.emit ev).p0 = s.p0 := rfl
@[simp] theorem State.emit_p1 (ev : BusEvent) : (s.emit ev).p1 = s.p1 := rfl
@[simp] theorem State.emit_shadowSel (ev : BusEvent) : (s.emit ev).shadowSel = s.shadowSel := rfl
@[simp] theorem State.emit_ops (ev : BusEvent) : (s.emit ev).ops = s.ops := rfl
@[simp] theorem State.emit_opsLeft (ev : BusEvent) : (s.emit ev).opsLeft = s.opsLeft := rfl
@[simp] theorem State.emit_ring (ev : BusEvent) : (s.emit ev).ring = s.ring := rfl
@[simp] theorem State.emit_cursor (ev : BusEvent) : (s.emit ev).cursor = s.cursor := rfl
@[simp] theorem State.emit_errIllegal (ev : BusEvent) : (s.emit ev).errIllegal = s.errIllegal := rfl
@[simp] theorem State.emit_errRange (ev : BusEvent) : (s.emit ev).errRange = s.errRange := rfl
@[simp] theorem State.emit_errBusy (ev : BusEvent) : (s.emit ev).errBusy = s.errBusy := rfl
@[simp] theorem State.emit_faultInfo (ev : BusEvent) : (s.emit ev).faultInfo = s.faultInfo := rfl
@[simp] theorem State.emit_schedEn (ev : BusEvent) : (s.emit ev).schedEn = s.schedEn := rfl
@[simp] theorem State.emit_zoom (ev : BusEvent) : (s.emit ev).zoom = s.zoom := rfl
@[simp] theorem State.emit_fzoom (ev : BusEvent) : (s.emit ev).fzoom = s.fzoom := rfl
@[simp] theorem State.emit_base (ev : BusEvent) : (s.emit ev).base = s.base := rfl
@[simp] theorem State.emit_schedState (ev : BusEvent) : (s.emit ev).schedState = s.schedState := rfl
@[simp] theorem State.emit_schedCol (ev : BusEvent) : (s.emit ev).schedCol = s.schedCol := rfl
@[simp] theorem State.emit_tickLeft (ev : BusEvent) : (s.emit ev).tickLeft = s.tickLeft := rfl
@[simp] theorem State.emit_tickcnt (ev : BusEvent) : (s.emit ev).tickcnt = s.tickcnt := rfl
@[simp] theorem State.emit_flushPhase (ev : BusEvent) : (s.emit ev).flushPhase = s.flushPhase := rfl
@[simp] theorem State.emit_flushRow (ev : BusEvent) : (s.emit ev).flushRow = s.flushRow := rfl
@[simp] theorem State.emit_renderActive (ev : BusEvent) : (s.emit ev).renderActive = s.renderActive := rfl
@[simp] theorem State.emit_renderReq (ev : BusEvent) : (s.emit ev).renderReq = s.renderReq := rfl
@[simp] theorem State.emit_rip (ev : BusEvent) : (s.emit ev).rip = s.rip := rfl
@[simp] theorem State.emit_abort (ev : BusEvent) : (s.emit ev).abort = s.abort := rfl
@[simp] theorem State.emit_result (ev : BusEvent) : (s.emit ev).result = s.result := rfl
@[simp] theorem State.emit_buslog (ev : BusEvent) : (s.emit ev).buslog = (s.buslog ++ [busWord ev]) := rfl
@[simp] theorem State.emit_pending (ev : BusEvent) : (s.emit ev).pending = s.pending := rfl

/-! ### raiseFault -/

@[simp] theorem State.raiseFault_cfg (k : FaultCode) (opc a : Byte) : (s.raiseFault k opc a).cfg = s.cfg := rfl
@[simp] theorem State.raiseFault_p0 (k : FaultCode) (opc a : Byte) : (s.raiseFault k opc a).p0 = s.p0 := rfl
@[simp] theorem State.raiseFault_p1 (k : FaultCode) (opc a : Byte) : (s.raiseFault k opc a).p1 = s.p1 := rfl
@[simp] theorem State.raiseFault_shadowSel (k : FaultCode) (opc a : Byte) : (s.raiseFault k opc a).shadowSel = s.shadowSel := rfl
@[simp] theorem State.raiseFault_ops (k : FaultCode) (opc a : Byte) : (s.raiseFault k opc a).ops = s.ops := rfl
@[simp] theorem State.raiseFault_opsLeft (k : FaultCode) (opc a : Byte) : (s.raiseFault k opc a).opsLeft = s.opsLeft := rfl
@[simp] theorem State.raiseFault_ring (k : FaultCode) (opc a : Byte) : (s.raiseFault k opc a).ring = s.ring := rfl
@[simp] theorem State.raiseFault_cursor (k : FaultCode) (opc a : Byte) : (s.raiseFault k opc a).cursor = s.cursor := rfl
@[simp] theorem State.raiseFault_errIllegal (k : FaultCode) (opc a : Byte) : (s.raiseFault k opc a).errIllegal = (s.errIllegal || setsErrIllegal k) := rfl
@[simp] theorem State.raiseFault_errRange (k : FaultCode) (opc a : Byte) : (s.raiseFault k opc a).errRange = (s.errRange || setsErrRange k) := rfl
@[simp] theorem State.raiseFault_errBusy (k : FaultCode) (opc a : Byte) : (s.raiseFault k opc a).errBusy = (s.errBusy || setsErrBusy k) := rfl
@[simp] theorem State.raiseFault_faultInfo (k : FaultCode) (opc a : Byte) : (s.raiseFault k opc a).faultInfo = (if s.faultInfo.code = 0#8 then ⟨faultNumber k, opc, a⟩ else s.faultInfo) := rfl
@[simp] theorem State.raiseFault_schedEn (k : FaultCode) (opc a : Byte) : (s.raiseFault k opc a).schedEn = s.schedEn := rfl
@[simp] theorem State.raiseFault_zoom (k : FaultCode) (opc a : Byte) : (s.raiseFault k opc a).zoom = s.zoom := rfl
@[simp] theorem State.raiseFault_fzoom (k : FaultCode) (opc a : Byte) : (s.raiseFault k opc a).fzoom = s.fzoom := rfl
@[simp] theorem State.raiseFault_base (k : FaultCode) (opc a : Byte) : (s.raiseFault k opc a).base = s.base := rfl
@[simp] theorem State.raiseFault_schedState (k : FaultCode) (opc a : Byte) : (s.raiseFault k opc a).schedState = s.schedState := rfl
@[simp] theorem State.raiseFault_schedCol (k : FaultCode) (opc a : Byte) : (s.raiseFault k opc a).schedCol = s.schedCol := rfl
@[simp] theorem State.raiseFault_tickLeft (k : FaultCode) (opc a : Byte) : (s.raiseFault k opc a).tickLeft = s.tickLeft := rfl
@[simp] theorem State.raiseFault_tickcnt (k : FaultCode) (opc a : Byte) : (s.raiseFault k opc a).tickcnt = s.tickcnt := rfl
@[simp] theorem State.raiseFault_flushPhase (k : FaultCode) (opc a : Byte) : (s.raiseFault k opc a).flushPhase = s.flushPhase := rfl
@[simp] theorem State.raiseFault_flushRow (k : FaultCode) (opc a : Byte) : (s.raiseFault k opc a).flushRow = s.flushRow := rfl
@[simp] theorem State.raiseFault_renderActive (k : FaultCode) (opc a : Byte) : (s.raiseFault k opc a).renderActive = s.renderActive := rfl
@[simp] theorem State.raiseFault_renderReq (k : FaultCode) (opc a : Byte) : (s.raiseFault k opc a).renderReq = s.renderReq := rfl
@[simp] theorem State.raiseFault_rip (k : FaultCode) (opc a : Byte) : (s.raiseFault k opc a).rip = s.rip := rfl
@[simp] theorem State.raiseFault_abort (k : FaultCode) (opc a : Byte) : (s.raiseFault k opc a).abort = s.abort := rfl
@[simp] theorem State.raiseFault_result (k : FaultCode) (opc a : Byte) : (s.raiseFault k opc a).result = s.result := rfl
@[simp] theorem State.raiseFault_buslog (k : FaultCode) (opc a : Byte) : (s.raiseFault k opc a).buslog = s.buslog := rfl
@[simp] theorem State.raiseFault_pending (k : FaultCode) (opc a : Byte) : (s.raiseFault k opc a).pending = s.pending := rfl

/-! ### abortStep -/

@[simp] theorem State.abortStep_cfg : (s.abortStep).cfg = s.cfg := rfl
@[simp] theorem State.abortStep_p0 : (s.abortStep).p0 = s.p0 := rfl
@[simp] theorem State.abortStep_p1 : (s.abortStep).p1 = s.p1 := rfl
@[simp] theorem State.abortStep_shadowSel : (s.abortStep).shadowSel = s.shadowSel := rfl
@[simp] theorem State.abortStep_ops : (s.abortStep).ops = s.ops := rfl
@[simp] theorem State.abortStep_opsLeft : (s.abortStep).opsLeft = s.opsLeft := rfl
@[simp] theorem State.abortStep_ring : (s.abortStep).ring = s.ring := rfl
@[simp] theorem State.abortStep_cursor : (s.abortStep).cursor = s.cursor := rfl
@[simp] theorem State.abortStep_errIllegal : (s.abortStep).errIllegal = s.errIllegal := rfl
@[simp] theorem State.abortStep_errRange : (s.abortStep).errRange = s.errRange := rfl
@[simp] theorem State.abortStep_errBusy : (s.abortStep).errBusy = s.errBusy := rfl
@[simp] theorem State.abortStep_faultInfo : (s.abortStep).faultInfo = s.faultInfo := rfl
@[simp] theorem State.abortStep_schedEn : (s.abortStep).schedEn = s.schedEn := rfl
@[simp] theorem State.abortStep_zoom : (s.abortStep).zoom = s.zoom := rfl
@[simp] theorem State.abortStep_fzoom : (s.abortStep).fzoom = s.fzoom := rfl
@[simp] theorem State.abortStep_base : (s.abortStep).base = s.base := rfl
@[simp] theorem State.abortStep_schedState : (s.abortStep).schedState = s.schedState := rfl
@[simp] theorem State.abortStep_schedCol : (s.abortStep).schedCol = s.schedCol := rfl
@[simp] theorem State.abortStep_tickLeft : (s.abortStep).tickLeft = s.tickLeft := rfl
@[simp] theorem State.abortStep_tickcnt : (s.abortStep).tickcnt = s.tickcnt := rfl
@[simp] theorem State.abortStep_flushPhase : (s.abortStep).flushPhase = .diff := rfl
@[simp] theorem State.abortStep_flushRow : (s.abortStep).flushRow = s.flushRow := rfl
@[simp] theorem State.abortStep_renderActive : (s.abortStep).renderActive = s.renderActive := rfl
@[simp] theorem State.abortStep_renderReq : (s.abortStep).renderReq = s.renderReq := rfl
@[simp] theorem State.abortStep_rip : (s.abortStep).rip = s.rip := rfl
@[simp] theorem State.abortStep_abort : (s.abortStep).abort = false := rfl
@[simp] theorem State.abortStep_result : (s.abortStep).result = s.result := rfl
@[simp] theorem State.abortStep_buslog : (s.abortStep).buslog = s.buslog := rfl
@[simp] theorem State.abortStep_pending : (s.abortStep).pending = s.pending := rfl

/-! ### ringPush -/

@[simp] theorem State.ringPush_cfg (v : Sample) : (s.ringPush v).cfg = s.cfg := rfl
@[simp] theorem State.ringPush_p0 (v : Sample) : (s.ringPush v).p0 = s.p0 := rfl
@[simp] theorem State.ringPush_p1 (v : Sample) : (s.ringPush v).p1 = s.p1 := rfl
@[simp] theorem State.ringPush_shadowSel (v : Sample) : (s.ringPush v).shadowSel = s.shadowSel := rfl
@[simp] theorem State.ringPush_ops (v : Sample) : (s.ringPush v).ops = s.ops := rfl
@[simp] theorem State.ringPush_opsLeft (v : Sample) : (s.ringPush v).opsLeft = s.opsLeft := rfl
@[simp] theorem State.ringPush_ring (v : Sample) : (s.ringPush v).ring = (Memory.write s.ring ((s.cursor.toNat + 1) % capacityOf s.cfg) v) := rfl
@[simp] theorem State.ringPush_cursor (v : Sample) : (s.ringPush v).cursor = (BitVec.ofNat 24 ((s.cursor.toNat + 1) % capacityOf s.cfg)) := rfl
@[simp] theorem State.ringPush_errIllegal (v : Sample) : (s.ringPush v).errIllegal = s.errIllegal := rfl
@[simp] theorem State.ringPush_errRange (v : Sample) : (s.ringPush v).errRange = s.errRange := rfl
@[simp] theorem State.ringPush_errBusy (v : Sample) : (s.ringPush v).errBusy = s.errBusy := rfl
@[simp] theorem State.ringPush_faultInfo (v : Sample) : (s.ringPush v).faultInfo = s.faultInfo := rfl
@[simp] theorem State.ringPush_schedEn (v : Sample) : (s.ringPush v).schedEn = s.schedEn := rfl
@[simp] theorem State.ringPush_zoom (v : Sample) : (s.ringPush v).zoom = s.zoom := rfl
@[simp] theorem State.ringPush_fzoom (v : Sample) : (s.ringPush v).fzoom = s.fzoom := rfl
@[simp] theorem State.ringPush_base (v : Sample) : (s.ringPush v).base = s.base := rfl
@[simp] theorem State.ringPush_schedState (v : Sample) : (s.ringPush v).schedState = s.schedState := rfl
@[simp] theorem State.ringPush_schedCol (v : Sample) : (s.ringPush v).schedCol = s.schedCol := rfl
@[simp] theorem State.ringPush_tickLeft (v : Sample) : (s.ringPush v).tickLeft = s.tickLeft := rfl
@[simp] theorem State.ringPush_tickcnt (v : Sample) : (s.ringPush v).tickcnt = s.tickcnt := rfl
@[simp] theorem State.ringPush_flushPhase (v : Sample) : (s.ringPush v).flushPhase = s.flushPhase := rfl
@[simp] theorem State.ringPush_flushRow (v : Sample) : (s.ringPush v).flushRow = s.flushRow := rfl
@[simp] theorem State.ringPush_renderActive (v : Sample) : (s.ringPush v).renderActive = s.renderActive := rfl
@[simp] theorem State.ringPush_renderReq (v : Sample) : (s.ringPush v).renderReq = s.renderReq := rfl
@[simp] theorem State.ringPush_rip (v : Sample) : (s.ringPush v).rip = s.rip := rfl
@[simp] theorem State.ringPush_abort (v : Sample) : (s.ringPush v).abort = s.abort := rfl
@[simp] theorem State.ringPush_result (v : Sample) : (s.ringPush v).result = s.result := rfl
@[simp] theorem State.ringPush_buslog (v : Sample) : (s.ringPush v).buslog = s.buslog := rfl
@[simp] theorem State.ringPush_pending (v : Sample) : (s.ringPush v).pending = s.pending := rfl

/-! ### toRow -/

@[simp] theorem State.toRow_cfg (r : Nat) : (s.toRow r).cfg = s.cfg := rfl
@[simp] theorem State.toRow_p0 (r : Nat) : (s.toRow r).p0 = s.p0 := rfl
@[simp] theorem State.toRow_p1 (r : Nat) : (s.toRow r).p1 = s.p1 := rfl
@[simp] theorem State.toRow_shadowSel (r : Nat) : (s.toRow r).shadowSel = s.shadowSel := rfl
@[simp] theorem State.toRow_ops (r : Nat) : (s.toRow r).ops = s.ops := rfl
@[simp] theorem State.toRow_opsLeft (r : Nat) : (s.toRow r).opsLeft = s.opsLeft := rfl
@[simp] theorem State.toRow_ring (r : Nat) : (s.toRow r).ring = s.ring := rfl
@[simp] theorem State.toRow_cursor (r : Nat) : (s.toRow r).cursor = s.cursor := rfl
@[simp] theorem State.toRow_errIllegal (r : Nat) : (s.toRow r).errIllegal = s.errIllegal := rfl
@[simp] theorem State.toRow_errRange (r : Nat) : (s.toRow r).errRange = s.errRange := rfl
@[simp] theorem State.toRow_errBusy (r : Nat) : (s.toRow r).errBusy = s.errBusy := rfl
@[simp] theorem State.toRow_faultInfo (r : Nat) : (s.toRow r).faultInfo = s.faultInfo := rfl
@[simp] theorem State.toRow_schedEn (r : Nat) : (s.toRow r).schedEn = s.schedEn := rfl
@[simp] theorem State.toRow_zoom (r : Nat) : (s.toRow r).zoom = s.zoom := rfl
@[simp] theorem State.toRow_fzoom (r : Nat) : (s.toRow r).fzoom = s.fzoom := rfl
@[simp] theorem State.toRow_base (r : Nat) : (s.toRow r).base = s.base := rfl
@[simp] theorem State.toRow_schedState (r : Nat) : (s.toRow r).schedState = s.schedState := rfl
@[simp] theorem State.toRow_schedCol (r : Nat) : (s.toRow r).schedCol = s.schedCol := rfl
@[simp] theorem State.toRow_tickLeft (r : Nat) : (s.toRow r).tickLeft = s.tickLeft := rfl
@[simp] theorem State.toRow_tickcnt (r : Nat) : (s.toRow r).tickcnt = s.tickcnt := rfl
@[simp] theorem State.toRow_flushPhase (r : Nat) : (s.toRow r).flushPhase = (if nextRow s.ops r < 64 then .rowCmd else .busEnd) := rfl
@[simp] theorem State.toRow_flushRow (r : Nat) : (s.toRow r).flushRow = (BitVec.ofNat 7 (nextRow s.ops r)) := rfl
@[simp] theorem State.toRow_renderActive (r : Nat) : (s.toRow r).renderActive = s.renderActive := rfl
@[simp] theorem State.toRow_renderReq (r : Nat) : (s.toRow r).renderReq = s.renderReq := rfl
@[simp] theorem State.toRow_rip (r : Nat) : (s.toRow r).rip = s.rip := rfl
@[simp] theorem State.toRow_abort (r : Nat) : (s.toRow r).abort = s.abort := rfl
@[simp] theorem State.toRow_result (r : Nat) : (s.toRow r).result = s.result := rfl
@[simp] theorem State.toRow_buslog (r : Nat) : (s.toRow r).buslog = s.buslog := rfl
@[simp] theorem State.toRow_pending (r : Nat) : (s.toRow r).pending = s.pending := rfl

/-! ### tickStart -/

@[simp] theorem State.tickStart_cfg : (s.tickStart).cfg = s.cfg := rfl
@[simp] theorem State.tickStart_p0 : (s.tickStart).p0 = s.p0 := rfl
@[simp] theorem State.tickStart_p1 : (s.tickStart).p1 = s.p1 := rfl
@[simp] theorem State.tickStart_shadowSel : (s.tickStart).shadowSel = s.shadowSel := rfl
@[simp] theorem State.tickStart_ops : (s.tickStart).ops = s.ops := rfl
@[simp] theorem State.tickStart_opsLeft : (s.tickStart).opsLeft = s.opsLeft := rfl
@[simp] theorem State.tickStart_ring : (s.tickStart).ring = s.ring := rfl
@[simp] theorem State.tickStart_cursor : (s.tickStart).cursor = s.cursor := rfl
@[simp] theorem State.tickStart_errIllegal : (s.tickStart).errIllegal = s.errIllegal := rfl
@[simp] theorem State.tickStart_errRange : (s.tickStart).errRange = s.errRange := rfl
@[simp] theorem State.tickStart_errBusy : (s.tickStart).errBusy = s.errBusy := rfl
@[simp] theorem State.tickStart_faultInfo : (s.tickStart).faultInfo = s.faultInfo := rfl
@[simp] theorem State.tickStart_schedEn : (s.tickStart).schedEn = s.schedEn := rfl
@[simp] theorem State.tickStart_zoom : (s.tickStart).zoom = s.zoom := rfl
@[simp] theorem State.tickStart_fzoom : (s.tickStart).fzoom = s.fzoom := rfl
@[simp] theorem State.tickStart_base : (s.tickStart).base = s.base := rfl
@[simp] theorem State.tickStart_schedState : (s.tickStart).schedState = (if s.schedState = .idle then .frameStart else s.schedState) := rfl
@[simp] theorem State.tickStart_schedCol : (s.tickStart).schedCol = s.schedCol := rfl
@[simp] theorem State.tickStart_tickLeft : (s.tickStart).tickLeft = (BitVec.ofNat 2 (colsPerTickOf s.cfg)) := rfl
@[simp] theorem State.tickStart_tickcnt : (s.tickStart).tickcnt = s.tickcnt := rfl
@[simp] theorem State.tickStart_flushPhase : (s.tickStart).flushPhase = s.flushPhase := rfl
@[simp] theorem State.tickStart_flushRow : (s.tickStart).flushRow = s.flushRow := rfl
@[simp] theorem State.tickStart_renderActive : (s.tickStart).renderActive = true := rfl
@[simp] theorem State.tickStart_renderReq : (s.tickStart).renderReq = false := rfl
@[simp] theorem State.tickStart_rip : (s.tickStart).rip = s.rip := rfl
@[simp] theorem State.tickStart_abort : (s.tickStart).abort = s.abort := rfl
@[simp] theorem State.tickStart_result : (s.tickStart).result = s.result := rfl
@[simp] theorem State.tickStart_buslog : (s.tickStart).buslog = s.buslog := rfl
@[simp] theorem State.tickStart_pending : (s.tickStart).pending = s.pending := rfl

/-! ### afterFlush -/

@[simp] theorem State.afterFlush_cfg : (s.afterFlush).cfg = s.cfg := rfl
@[simp] theorem State.afterFlush_p0 : (s.afterFlush).p0 = s.p0 := rfl
@[simp] theorem State.afterFlush_p1 : (s.afterFlush).p1 = s.p1 := rfl
@[simp] theorem State.afterFlush_shadowSel : (s.afterFlush).shadowSel = s.shadowSel := rfl
@[simp] theorem State.afterFlush_ops : (s.afterFlush).ops = s.ops := rfl
@[simp] theorem State.afterFlush_opsLeft : (s.afterFlush).opsLeft = s.opsLeft := rfl
@[simp] theorem State.afterFlush_ring : (s.afterFlush).ring = s.ring := rfl
@[simp] theorem State.afterFlush_cursor : (s.afterFlush).cursor = s.cursor := rfl
@[simp] theorem State.afterFlush_errIllegal : (s.afterFlush).errIllegal = s.errIllegal := rfl
@[simp] theorem State.afterFlush_errRange : (s.afterFlush).errRange = s.errRange := rfl
@[simp] theorem State.afterFlush_errBusy : (s.afterFlush).errBusy = s.errBusy := rfl
@[simp] theorem State.afterFlush_faultInfo : (s.afterFlush).faultInfo = s.faultInfo := rfl
@[simp] theorem State.afterFlush_schedEn : (s.afterFlush).schedEn = s.schedEn := rfl
@[simp] theorem State.afterFlush_zoom : (s.afterFlush).zoom = s.zoom := rfl
@[simp] theorem State.afterFlush_fzoom : (s.afterFlush).fzoom = s.fzoom := rfl
@[simp] theorem State.afterFlush_base : (s.afterFlush).base = s.base := rfl
@[simp] theorem State.afterFlush_schedState : (s.afterFlush).schedState = (if s.schedCol = 128#8 then .frameDone else .columnFill) := rfl
@[simp] theorem State.afterFlush_schedCol : (s.afterFlush).schedCol = s.schedCol := rfl
@[simp] theorem State.afterFlush_tickLeft : (s.afterFlush).tickLeft = s.tickLeft := rfl
@[simp] theorem State.afterFlush_tickcnt : (s.afterFlush).tickcnt = s.tickcnt := rfl
@[simp] theorem State.afterFlush_flushPhase : (s.afterFlush).flushPhase = .diff := rfl
@[simp] theorem State.afterFlush_flushRow : (s.afterFlush).flushRow = s.flushRow := rfl
@[simp] theorem State.afterFlush_renderActive : (s.afterFlush).renderActive = s.renderActive := rfl
@[simp] theorem State.afterFlush_renderReq : (s.afterFlush).renderReq = s.renderReq := rfl
@[simp] theorem State.afterFlush_rip : (s.afterFlush).rip = s.rip := rfl
@[simp] theorem State.afterFlush_abort : (s.afterFlush).abort = s.abort := rfl
@[simp] theorem State.afterFlush_result : (s.afterFlush).result = s.result := rfl
@[simp] theorem State.afterFlush_buslog : (s.afterFlush).buslog = s.buslog := rfl
@[simp] theorem State.afterFlush_pending : (s.afterFlush).pending = s.pending := rfl

/-! ### writeCtrl -/

@[simp] theorem State.writeCtrl_cfg (v : Word32) : (s.writeCtrl v).cfg = s.cfg := rfl
@[simp] theorem State.writeCtrl_p0 (v : Word32) : (s.writeCtrl v).p0 = s.p0 := rfl
@[simp] theorem State.writeCtrl_p1 (v : Word32) : (s.writeCtrl v).p1 = s.p1 := rfl
@[simp] theorem State.writeCtrl_shadowSel (v : Word32) : (s.writeCtrl v).shadowSel = s.shadowSel := rfl
@[simp] theorem State.writeCtrl_ops (v : Word32) : (s.writeCtrl v).ops = s.ops := rfl
@[simp] theorem State.writeCtrl_opsLeft (v : Word32) : (s.writeCtrl v).opsLeft = s.opsLeft := rfl
@[simp] theorem State.writeCtrl_ring (v : Word32) : (s.writeCtrl v).ring = s.ring := rfl
@[simp] theorem State.writeCtrl_cursor (v : Word32) : (s.writeCtrl v).cursor = s.cursor := rfl
@[simp] theorem State.writeCtrl_errIllegal (v : Word32) : (s.writeCtrl v).errIllegal = s.errIllegal := rfl
@[simp] theorem State.writeCtrl_errRange (v : Word32) : (s.writeCtrl v).errRange = s.errRange := rfl
@[simp] theorem State.writeCtrl_errBusy (v : Word32) : (s.writeCtrl v).errBusy = s.errBusy := rfl
@[simp] theorem State.writeCtrl_faultInfo (v : Word32) : (s.writeCtrl v).faultInfo = s.faultInfo := rfl
@[simp] theorem State.writeCtrl_schedEn (v : Word32) : (s.writeCtrl v).schedEn = (v.getLsbD 0) := rfl
@[simp] theorem State.writeCtrl_zoom (v : Word32) : (s.writeCtrl v).zoom = s.zoom := rfl
@[simp] theorem State.writeCtrl_fzoom (v : Word32) : (s.writeCtrl v).fzoom = s.fzoom := rfl
@[simp] theorem State.writeCtrl_base (v : Word32) : (s.writeCtrl v).base = s.base := rfl
@[simp] theorem State.writeCtrl_schedState (v : Word32) : (s.writeCtrl v).schedState = s.schedState := rfl
@[simp] theorem State.writeCtrl_schedCol (v : Word32) : (s.writeCtrl v).schedCol = s.schedCol := rfl
@[simp] theorem State.writeCtrl_tickLeft (v : Word32) : (s.writeCtrl v).tickLeft = s.tickLeft := rfl
@[simp] theorem State.writeCtrl_tickcnt (v : Word32) : (s.writeCtrl v).tickcnt = s.tickcnt := rfl
@[simp] theorem State.writeCtrl_flushPhase (v : Word32) : (s.writeCtrl v).flushPhase = s.flushPhase := rfl
@[simp] theorem State.writeCtrl_flushRow (v : Word32) : (s.writeCtrl v).flushRow = s.flushRow := rfl
@[simp] theorem State.writeCtrl_renderActive (v : Word32) : (s.writeCtrl v).renderActive = s.renderActive := rfl
@[simp] theorem State.writeCtrl_renderReq (v : Word32) : (s.writeCtrl v).renderReq = (s.renderReq && v.getLsbD 0) := rfl
@[simp] theorem State.writeCtrl_rip (v : Word32) : (s.writeCtrl v).rip = s.rip := rfl
@[simp] theorem State.writeCtrl_abort (v : Word32) : (s.writeCtrl v).abort = s.abort := rfl
@[simp] theorem State.writeCtrl_result (v : Word32) : (s.writeCtrl v).result = s.result := rfl
@[simp] theorem State.writeCtrl_buslog (v : Word32) : (s.writeCtrl v).buslog = s.buslog := rfl
@[simp] theorem State.writeCtrl_pending (v : Word32) : (s.writeCtrl v).pending = s.pending := rfl

/-! ### withPending -/

@[simp] theorem State.withPending_cfg (p : List PortEvent) : (s.withPending p).cfg = s.cfg := rfl
@[simp] theorem State.withPending_p0 (p : List PortEvent) : (s.withPending p).p0 = s.p0 := rfl
@[simp] theorem State.withPending_p1 (p : List PortEvent) : (s.withPending p).p1 = s.p1 := rfl
@[simp] theorem State.withPending_shadowSel (p : List PortEvent) : (s.withPending p).shadowSel = s.shadowSel := rfl
@[simp] theorem State.withPending_ops (p : List PortEvent) : (s.withPending p).ops = s.ops := rfl
@[simp] theorem State.withPending_opsLeft (p : List PortEvent) : (s.withPending p).opsLeft = s.opsLeft := rfl
@[simp] theorem State.withPending_ring (p : List PortEvent) : (s.withPending p).ring = s.ring := rfl
@[simp] theorem State.withPending_cursor (p : List PortEvent) : (s.withPending p).cursor = s.cursor := rfl
@[simp] theorem State.withPending_errIllegal (p : List PortEvent) : (s.withPending p).errIllegal = s.errIllegal := rfl
@[simp] theorem State.withPending_errRange (p : List PortEvent) : (s.withPending p).errRange = s.errRange := rfl
@[simp] theorem State.withPending_errBusy (p : List PortEvent) : (s.withPending p).errBusy = s.errBusy := rfl
@[simp] theorem State.withPending_faultInfo (p : List PortEvent) : (s.withPending p).faultInfo = s.faultInfo := rfl
@[simp] theorem State.withPending_schedEn (p : List PortEvent) : (s.withPending p).schedEn = s.schedEn := rfl
@[simp] theorem State.withPending_zoom (p : List PortEvent) : (s.withPending p).zoom = s.zoom := rfl
@[simp] theorem State.withPending_fzoom (p : List PortEvent) : (s.withPending p).fzoom = s.fzoom := rfl
@[simp] theorem State.withPending_base (p : List PortEvent) : (s.withPending p).base = s.base := rfl
@[simp] theorem State.withPending_schedState (p : List PortEvent) : (s.withPending p).schedState = s.schedState := rfl
@[simp] theorem State.withPending_schedCol (p : List PortEvent) : (s.withPending p).schedCol = s.schedCol := rfl
@[simp] theorem State.withPending_tickLeft (p : List PortEvent) : (s.withPending p).tickLeft = s.tickLeft := rfl
@[simp] theorem State.withPending_tickcnt (p : List PortEvent) : (s.withPending p).tickcnt = s.tickcnt := rfl
@[simp] theorem State.withPending_flushPhase (p : List PortEvent) : (s.withPending p).flushPhase = s.flushPhase := rfl
@[simp] theorem State.withPending_flushRow (p : List PortEvent) : (s.withPending p).flushRow = s.flushRow := rfl
@[simp] theorem State.withPending_renderActive (p : List PortEvent) : (s.withPending p).renderActive = s.renderActive := rfl
@[simp] theorem State.withPending_renderReq (p : List PortEvent) : (s.withPending p).renderReq = s.renderReq := rfl
@[simp] theorem State.withPending_rip (p : List PortEvent) : (s.withPending p).rip = s.rip := rfl
@[simp] theorem State.withPending_abort (p : List PortEvent) : (s.withPending p).abort = s.abort := rfl
@[simp] theorem State.withPending_result (p : List PortEvent) : (s.withPending p).result = s.result := rfl
@[simp] theorem State.withPending_buslog (p : List PortEvent) : (s.withPending p).buslog = s.buslog := rfl
@[simp] theorem State.withPending_pending (p : List PortEvent) : (s.withPending p).pending = p := rfl

end Sys2Proof.Machine
end

