-- ==== Sys2Proof/Laws/Pixels.lean ====
section
/-! SUPPORT. The pixel buffers: reading after writing, per column and per pixel. -/

namespace Sys2Proof.Machine

open Sys2Proof

theorem PixBuf.read_write (p : PixBuf) {c : Nat} (hc : c < 128) (v : Column) (d : Nat) :
    PixBuf.read (PixBuf.write p c v) d = if d = c then v else PixBuf.read p d := by
  unfold PixBuf.read PixBuf.write
  simp only [hc, dite_true]
  by_cases hd : d < 128
  · simp only [hd, dite_true, Vector.getElem_set]
    by_cases hcd : c = d
    · simp [hcd]
    · simp [hcd, Ne.symm hcd]
  · have : d ≠ c := by omega
    simp [hd, this]

theorem PixBuf.write_outside (p : PixBuf) {c : Nat} (hc : ¬ c < 128) (v : Column) : PixBuf.write p c v = p := by
  simp [PixBuf.write, hc]

theorem PixBuf.read_outside (p : PixBuf) {c : Nat} (hc : ¬ c < 128) : PixBuf.read p c = 0#64 := by
  simp [PixBuf.read, hc]

theorem PixBuf.read_blank (c : Nat) : PixBuf.read PixBuf.blank c = 0#64 := by
  unfold PixBuf.read PixBuf.blank
  split <;> simp

/-- PixRead after PixWrite (`00_scope.md` R14). -/
theorem State.pixRead_pixWrite (s : State) (b : Bool) {c : Nat} (hc : c < 128) (v : Column) (b' : Bool) (d : Nat) :
    (s.pixWrite b c v).pixRead b' d = if b' = b ∧ d = c then v else s.pixRead b' d := by
  cases b <;> cases b' <;> simp [State.pixRead, State.pixBuf, PixBuf.read_write _ hc]

theorem State.pixRead_pixClear (s : State) (b b' : Bool) (d : Nat) :
    (s.pixClear b).pixRead b' d = if b' = b then 0#64 else s.pixRead b' d := by
  cases b <;> cases b' <;> simp [State.pixRead, State.pixBuf, PixBuf.read_blank]

theorem State.lv_ne_sh (s : State) : s.lv ≠ s.sh := by
  unfold State.lv State.sh
  cases s.shadowSel <;> decide

theorem getLsbD_rowBit (r i : Nat) : (rowBit r).getLsbD i = (decide (i < 64) && decide (i = r)) := by
  unfold rowBit
  rw [BitVec.getLsbD_shiftLeft]
  by_cases hi : i < 64 <;> simp [hi]
  by_cases hr : i = r
  · simp [hr]
  · by_cases hlt : i < r
    · simp [hlt, hr]
    · have h0 : i - r ≠ 0 := by omega
      simp [hlt, hr]
      omega

theorem getLsbD_or_rowBit (w : Column) (r : Nat) {i : Nat} (hi : i < 64) :
    (w ||| rowBit r).getLsbD i = (w.getLsbD i || decide (i = r)) := by
  rw [BitVec.getLsbD_or, getLsbD_rowBit]
  rw [decide_eq_true hi, Bool.true_and]

theorem getLsbD_and_not_rowBit (w : Column) (r : Nat) {i : Nat} (hi : i < 64) :
    (w &&& ~~~rowBit r).getLsbD i = (w.getLsbD i && !decide (i = r)) := by
  rw [BitVec.getLsbD_and, BitVec.getLsbD_not, getLsbD_rowBit]
  rw [decide_eq_true hi, Bool.true_and, Bool.true_and]

theorem getLsbD_commitBit (live shadow : Column) (r i : Nat) :
    (commitBit live shadow r).getLsbD i = if i = r then shadow.getLsbD i else live.getLsbD i := by
  unfold commitBit
  by_cases hi : i < 64
  · simp only [BitVec.getLsbD_or, BitVec.getLsbD_and, BitVec.getLsbD_not, getLsbD_rowBit, hi, decide_true, Bool.true_and]
    by_cases hr : i = r <;> simp [hr]
  · have h1 : ∀ (w : Column), w.getLsbD i = false := fun w => BitVec.getLsbD_of_ge w i (by omega)
    simp [h1]

/-- The pixel read through a poke of the shadow (`40_pixel_plane.md` R111). -/
theorem State.pixel_poke (s : State) {c r : Nat} (hc : c < 128) (hr : r < 64) (v : Bool) (b : Bool) (d q : Nat) :
    (s.poke c r v).pixel b d q = if b = s.sh ∧ d = c ∧ q = r then v else s.pixel b d q := by
  unfold State.pixel State.poke
  rw [State.pixRead_pixWrite _ _ hc]
  by_cases hb : b = s.sh ∧ d = c
  · obtain ⟨rfl, rfl⟩ := hb
    by_cases hq : q < 64
    · cases v
      · rw [if_neg Bool.false_ne_true, if_pos ⟨rfl, rfl⟩, getLsbD_and_not_rowBit _ _ hq]
        by_cases hqr : q = r <;> simp [hqr]
      · rw [if_pos rfl, if_pos ⟨rfl, rfl⟩, getLsbD_or_rowBit _ _ hq]
        by_cases hqr : q = r <;> simp [hqr]
    · have h1 : ∀ (w : Column), w.getLsbD q = false := fun w => BitVec.getLsbD_of_ge w q (by omega)
      have h2 : q ≠ r := by omega
      simp [h1, h2]
  · have : ¬ (b = s.sh ∧ d = c ∧ q = r) := fun h => hb ⟨h.1, h.2.1⟩
    simp [hb, this]

end Sys2Proof.Machine
end

