-- ==== Sys2Proof/Laws/Ring.lean ====
section
/-! SUPPORT. The ring memory: reading after writing, the canonical form, the capacity. -/

namespace Sys2Proof.Machine

open Sys2Proof

theorem Memory.read_nil (i : Nat) : Memory.read [] i = ringUnlisted := rfl

theorem Memory.wf_of_wfAbove {n : Nat} : ∀ {m : Memory}, Memory.wfAbove n m = true → Memory.wf m = true
  | [], _ => rfl
  | (a, v) :: rest, h => by
    simp only [Memory.wfAbove, Memory.wf, Bool.and_eq_true] at h ⊢
    exact ⟨h.1.2, h.2⟩

theorem Memory.wfAbove_of_wf_cons {a : Nat} {v : Sample} {rest : Memory} (h : Memory.wf ((a, v) :: rest) = true) :
    Memory.wfAbove a rest = true := by
  simp only [Memory.wf, Bool.and_eq_true] at h
  exact h.2

theorem Memory.wfAbove_mono {n k : Nat} (hk : k ≤ n) : ∀ {m : Memory}, Memory.wfAbove n m = true → Memory.wfAbove k m = true
  | [], _ => rfl
  | (a, v) :: rest, h => by
    simp only [Memory.wfAbove, Bool.and_eq_true, decide_eq_true_eq] at h ⊢
    exact ⟨⟨by omega, h.1.2⟩, h.2⟩

/-- An index at or below the bound is not listed. -/
theorem Memory.read_of_wfAbove {n : Nat} : ∀ {m : Memory}, Memory.wfAbove n m = true → ∀ {i : Nat}, i ≤ n →
    Memory.read m i = ringUnlisted
  | [], _, _, _ => rfl
  | (a, v) :: rest, h, i, hi => by
    simp only [Memory.wfAbove, Bool.and_eq_true, decide_eq_true_eq] at h
    have hne : a ≠ i := by omega
    simp only [Memory.read, hne, if_false]
    exact Memory.read_of_wfAbove h.2 (by omega)

theorem Memory.read_consCell {i : Nat} {v : Sample} {rest : Memory} (h : Memory.wfAbove i rest = true) (j : Nat) :
    Memory.read (Memory.consCell i v rest) j = if j = i then v else Memory.read rest j := by
  unfold Memory.consCell
  by_cases hv : v = ringUnlisted
  · by_cases hj : j = i
    · simp [hv, hj, Memory.read_of_wfAbove h (Nat.le_refl i)]
    · simp [hv, hj]
  · by_cases hj : j = i
    · simp [hv, hj, Memory.read]
    · simp [hv, hj, Memory.read, Ne.symm hj]

theorem Memory.wfAbove_consCell {n i : Nat} {v : Sample} {rest : Memory} (hn : n < i)
    (h : Memory.wfAbove i rest = true) : Memory.wfAbove n (Memory.consCell i v rest) = true := by
  unfold Memory.consCell
  by_cases hv : v = ringUnlisted
  · simpa [hv] using Memory.wfAbove_mono (Nat.le_of_lt hn) h
  · simp [hv, Memory.wfAbove, hn, h]

theorem Memory.wf_consCell {i : Nat} {v : Sample} {rest : Memory} (h : Memory.wfAbove i rest = true) :
    Memory.wf (Memory.consCell i v rest) = true := by
  unfold Memory.consCell
  by_cases hv : v = ringUnlisted
  · simpa [hv] using Memory.wf_of_wfAbove h
  · simp [hv, Memory.wf, h]

theorem Memory.wfAbove_write {n : Nat} : ∀ {m : Memory}, Memory.wfAbove n m = true → ∀ {i : Nat}, n < i → ∀ (v : Sample),
    Memory.wfAbove n (Memory.write m i v) = true
  | [], _, i, hi, v => Memory.wfAbove_consCell hi rfl
  | (a, w) :: rest, h, i, hi, v => by
    have h' := h
    simp only [Memory.wfAbove, Bool.and_eq_true, decide_eq_true_eq] at h'
    unfold Memory.write
    split
    · refine Memory.wfAbove_consCell hi ?_
      simp [Memory.wfAbove, *]
    · split
      · rename_i _ hia
        exact Memory.wfAbove_consCell hi (hia ▸ h'.2)
      · have := Memory.wfAbove_write h'.2 (show a < i by omega) v
        simp [Memory.wfAbove, this, h']

/-- Writing keeps the canonical form. -/
theorem Memory.wf_write : ∀ {m : Memory}, Memory.wf m = true → ∀ (i : Nat) (v : Sample), Memory.wf (Memory.write m i v) = true
  | [], _, i, v => Memory.wf_consCell rfl
  | (a, w) :: rest, h, i, v => by
    have h' := h
    simp only [Memory.wf, Bool.and_eq_true] at h'
    unfold Memory.write
    split
    · refine Memory.wf_consCell ?_
      simp_all [Memory.wfAbove]
    · split
      · rename_i _ hia
        exact Memory.wf_consCell (hia ▸ h'.2)
      · have := Memory.wfAbove_write h'.2 (show a < i by omega) v
        simp [Memory.wf, this, h']

theorem Memory.read_write_above {n : Nat} : ∀ {m : Memory}, Memory.wfAbove n m = true → ∀ (i : Nat) (v : Sample) (j : Nat),
    Memory.read (Memory.write m i v) j = if j = i then v else Memory.read m j
  | [], _, i, v, j => Memory.read_consCell rfl j
  | (a, w) :: rest, h, i, v, j => by
    simp only [Memory.wfAbove, Bool.and_eq_true, decide_eq_true_eq] at h
    unfold Memory.write
    split
    · rw [Memory.read_consCell (by simp_all [Memory.wfAbove])]
    · split
      · rename_i _ hia
        subst hia
        rw [Memory.read_consCell h.2]
        by_cases hj : j = i
        · simp [hj]
        · simp [hj, Memory.read, Ne.symm hj]
      · have ih := Memory.read_write_above h.2 i v j
        rename_i _ hia
        simp only [Memory.read, ih]
        by_cases haj : a = j
        · have : j ≠ i := by omega
          simp [haj, this]
        · simp [haj]

/-- Read after write: the written index gives the written sample, every other index reads as before. -/
theorem Memory.read_write {m : Memory} (h : Memory.wf m = true) (i : Nat) (v : Sample) (j : Nat) :
    Memory.read (Memory.write m i v) j = if j = i then v else Memory.read m j := by
  cases m with
  | nil => exact Memory.read_consCell rfl j
  | cons c rest =>
    obtain ⟨a, w⟩ := c
    have h' := Memory.wfAbove_of_wf_cons h
    unfold Memory.write
    split
    · rw [Memory.read_consCell]
      simp only [Memory.wf, Bool.and_eq_true] at h
      simp_all [Memory.wfAbove]
    · split
      · rename_i _ hia
        subst hia
        rw [Memory.read_consCell h']
        by_cases hj : j = i
        · simp [hj]
        · simp [hj, Memory.read, Ne.symm hj]
      · rename_i _ hia
        simp only [Memory.read, Memory.read_write_above h' i v j]
        by_cases haj : a = j
        · have : j ≠ i := by omega
          simp [haj, this]
        · simp [haj]

theorem Memory.mem_consCell {i : Nat} {v : Sample} {rest : Memory} {cell : Nat × Sample}
    (h : cell ∈ Memory.consCell i v rest) : cell.1 = i ∨ cell ∈ rest := by
  unfold Memory.consCell at h
  split at h
  · exact .inr h
  · rcases List.mem_cons.1 h with rfl | h
    · exact .inl rfl
    · exact .inr h

/-- A cell of the written memory is the written index's or was listed before. -/
theorem Memory.mem_write : ∀ {m : Memory} {i : Nat} {v : Sample} {cell : Nat × Sample}, cell ∈ Memory.write m i v →
    cell.1 = i ∨ cell ∈ m
  | [], i, v, cell, h => Memory.mem_consCell h
  | (a, w) :: rest, i, v, cell, h => by
    unfold Memory.write at h
    split at h
    · exact Memory.mem_consCell h
    · split at h
      · exact (Memory.mem_consCell h).imp_right (List.mem_cons_of_mem _)
      · rcases List.mem_cons.1 h with rfl | h
        · exact .inr (List.mem_cons_self ..)
        · exact (Memory.mem_write h).imp_right (List.mem_cons_of_mem _)

/-- The memory of the state after reset has the canonical form. -/
theorem State.resetWith_ring_wf (c : Config) (p : List PortEvent) : Memory.wf (State.resetWith c p).ring = true := rfl

/-- The memory of `State.reset` has the canonical form. -/
theorem State.reset_ring_wf : Memory.wf State.reset.ring = true := rfl

/-! ### The parameters -/

theorem divisorOf_bounds (c : Config) : 1 ≤ divisorOf c ∧ divisorOf c ≤ 255 := by
  have := c.divisorLess1.isLt
  unfold divisorOf; omega

theorem maxZoomOf_bounds (c : Config) : 1 ≤ maxZoomOf c ∧ maxZoomOf c ≤ 255 := by
  unfold maxZoomOf
  split <;> (rename_i m _; have := m.isLt; omega)

theorem minZoomOf_bounds (c : Config) : 1 ≤ minZoomOf c ∧ minZoomOf c ≤ 255 := by
  have := c.minZoomLess1.isLt
  unfold minZoomOf; omega

theorem rowScaleOf_bounds (c : Config) : 1 ≤ rowScaleOf c ∧ rowScaleOf c ≤ 65535 := by
  have := c.rowScaleLess1.isLt
  unfold rowScaleOf; omega

theorem tickSamplesOf_bounds (c : Config) : 1 ≤ tickSamplesOf c ∧ tickSamplesOf c ≤ 65535 := by
  have := c.tickSamplesLess1.isLt
  unfold tickSamplesOf; omega

theorem zMaxOf_bounds (c : Config) : 1 ≤ zMaxOf c ∧ zMaxOf c ≤ 255 := by
  have h1 := maxZoomOf_bounds c
  have h2 := minZoomOf_bounds c
  unfold zMaxOf
  split <;> omega

/-- CAPACITY is at least 128 and below 2^24 (`00_scope.md` R9). -/
theorem capacityOf_bounds (c : Config) : 128 ≤ capacityOf c ∧ capacityOf c ≤ 8323200 := by
  have h1 := divisorOf_bounds c
  have h2 := zMaxOf_bounds c
  unfold capacityOf numCols
  have hlo : 1 * 1 ≤ divisorOf c * zMaxOf c := Nat.mul_le_mul h1.1 h2.1
  have hhi : divisorOf c * zMaxOf c ≤ 255 * 255 := Nat.mul_le_mul h1.2 h2.2
  rw [Nat.mul_assoc]
  omega

/-- Normalize answers an index of the ring (`42_sample_ring.md` R160). -/
theorem normalize_lt (c : Config) (x : Int) : normalize c x < capacityOf c := by
  have h := (capacityOf_bounds c).1
  unfold normalize
  have h0 := Int.emod_nonneg x (show (capacityOf c : Int) ≠ 0 by omega)
  have h1 := Int.emod_lt_of_pos x (show (0 : Int) < capacityOf c by omega)
  omega

/-- The cursor after a push, as a number (`42_sample_ring.md` R161). -/
theorem State.ringPush_cursor_toNat (s : State) (v : Sample) :
    (s.ringPush v).cursor.toNat = (s.cursor.toNat + 1) % capacityOf s.cfg := by
  have h := capacityOf_bounds s.cfg
  have hlt : (s.cursor.toNat + 1) % capacityOf s.cfg < capacityOf s.cfg := Nat.mod_lt _ (by omega)
  simp only [State.ringPush_cursor, BitVec.toNat_ofNat]
  exact Nat.mod_eq_of_lt (by omega)

end Sys2Proof.Machine
end

