-- ==== Sys2Proof/Laws/Operations.lean ====
section
/-! SUPPORT. What each shared operation can do, said once. -/

namespace Sys2Proof.Machine

open Sys2Proof

/-! ### Gating and faults -/

theorem gatedWriter_open (i : Instr) {s : State} (h : writersGated s = false) (e : Host.Outcome State Fault Refusal) :
    gatedWriter i s e = e := by simp [gatedWriter, h]

theorem gatedWriter_gated (i : Instr) {s : State} (h : writersGated s = true) (e : Host.Outcome State Fault Refusal) :
    gatedWriter i s e = .next (s.raiseFault .busy (opcodeByte i) (aField i)) := by simp [gatedWriter, faultOf, h]

/-- A gated writer that answers a next state raised BUSY or had its effect. -/
theorem gatedWriter_next {i : Instr} {s t : State} {e : Host.Outcome State Fault Refusal}
    (h : gatedWriter i s e = .next t) :
    (writersGated s = true ∧ t = s.raiseFault .busy (opcodeByte i) (aField i)) ∨ (writersGated s = false ∧ e = .next t) := by
  unfold gatedWriter at h
  split at h
  · rename_i hg
    simp only [faultOf, Host.Outcome.next.injEq] at h
    exact .inl ⟨hg, h.symm⟩
  · rename_i hg
    exact .inr ⟨by simpa using hg, h⟩

theorem writersGated_eq_false {s : State} : writersGated s = false ↔ s.schedEn = false ∧ s.renderActive = false := by
  simp [writersGated]

/-- A fault changes the three error bits and the record, nothing else (`60_exceptions.md` R263). -/
theorem State.raiseFault_frame (s : State) (k : FaultCode) (opc a : Byte) :
    s.raiseFault k opc a =
      { s with
        errIllegal := (s.raiseFault k opc a).errIllegal
        errRange := (s.raiseFault k opc a).errRange
        errBusy := (s.raiseFault k opc a).errBusy
        faultInfo := (s.raiseFault k opc a).faultInfo } := rfl

theorem faultNumber_ne_zero (k : FaultCode) : faultNumber k ≠ 0#8 := by cases k <;> decide

/-! ### Pixels -/

/-- A pixel write changes the buffers only. -/
theorem State.pixWrite_frame (s : State) (b : Bool) (c : Nat) (v : Column) :
    s.pixWrite b c v = { s with p0 := (s.pixWrite b c v).p0, p1 := (s.pixWrite b c v).p1 } := rfl

theorem State.poke_frame (s : State) (c r : Nat) (v : Bool) :
    s.poke c r v = { s with p0 := (s.poke c r v).p0, p1 := (s.poke c r v).p1 } := rfl

theorem State.drawColumn_frame (s : State) (c : Nat) :
    s.drawColumn c = { s with p0 := (s.drawColumn c).p0, p1 := (s.drawColumn c).p1 } := rfl

theorem State.commitRow_frame (s : State) (l r : Nat) :
    s.commitRow l r = { s with p0 := (s.commitRow l r).p0, p1 := (s.commitRow l r).p1 } := rfl

theorem State.clearPerPolicy_frame (s : State) :
    s.clearPerPolicy = { s with p0 := s.clearPerPolicy.p0, p1 := s.clearPerPolicy.p1 } := by
  unfold State.clearPerPolicy
  split <;> rfl

/-- The pixel read through the commit of one column's row: the live pixel becomes the shadow's. -/
theorem State.pixel_commitCell (s : State) {c : Nat} (hc : c < 128) (r : Nat) (b : Bool) (d q : Nat) :
    (s.commitCell c r).pixel b d q = if b = s.lv ∧ d = c ∧ q = r then s.pixel s.sh c r else s.pixel b d q := by
  unfold State.commitCell State.pixel
  rw [State.pixRead_pixWrite _ _ hc]
  by_cases hb : b = s.lv ∧ d = c
  · obtain ⟨rfl, rfl⟩ := hb
    rw [if_pos ⟨rfl, rfl⟩, getLsbD_commitBit]
    by_cases hq : q = r <;> simp [hq]
  · have : ¬ (b = s.lv ∧ d = c ∧ q = r) := fun h => hb ⟨h.1, h.2.1⟩
    simp [hb, this]

theorem State.commitCell_sh (s : State) (c r : Nat) : (s.commitCell c r).sh = s.sh := rfl

theorem State.commitCell_lv (s : State) (c r : Nat) : (s.commitCell c r).lv = s.lv := rfl

/-- The pixel read through CommitRow (`41_diff_engine.md` R137): live agrees with shadow at row `r` of both columns, and
nothing else changes. -/
theorem State.pixel_commitRow (s : State) {l : Nat} (hl : l + 1 < 128) (r : Nat) (b : Bool) (d q : Nat) :
    (s.commitRow l r).pixel b d q =
      if b = s.lv ∧ (d = l ∨ d = l + 1) ∧ q = r then s.pixel s.sh d q else s.pixel b d q := by
  unfold State.commitRow
  rw [State.pixel_commitCell _ hl, State.commitCell_lv, State.commitCell_sh, State.pixel_commitCell _ (by omega),
    State.pixel_commitCell _ (by omega)]
  have hne := s.lv_ne_sh
  by_cases hb : b = s.lv
  · subst hb
    by_cases hq : q = r
    · subst hq
      by_cases h1 : d = l + 1
      · subst h1
        simp [Ne.symm hne]
      · by_cases h2 : d = l
        · subst h2; simp
        · simp [h1, h2]
    · simp [hq]
  · simp [hb]

/-! ### The bus -/

/-- The performance of one item changes the buffers and the log only. -/
theorem State.performItem_frame (s : State) (l : Nat) (it : SwathItem) :
    s.performItem l it =
      { s with
        p0 := (s.performItem l it).p0
        p1 := (s.performItem l it).p1
        buslog := s.buslog ++ [busWord it.event] } := by
  unfold State.performItem
  split <;> rfl

/-- The performance of items changes the buffers and the log only, and appends the items' events in order. -/
theorem State.performItems_frame (l : Nat) : ∀ (items : List SwathItem) (s : State),
    s.performItems l items =
      { s with
        p0 := (s.performItems l items).p0
        p1 := (s.performItems l items).p1
        buslog := s.buslog ++ items.map (fun it => busWord it.event) }
  | [], s => by simp [State.performItems]
  | it :: rest, s => by
    have ih := State.performItems_frame l rest (s.performItem l it)
    have h1 := State.performItem_frame s l it
    simp only [State.performItems, List.map_cons]
    rw [ih]
    generalize (s.performItem l it).performItems l rest = u
    rw [h1]
    simp [List.append_assoc]

/-- The forced release: nothing without RIP, else one END, RIP cleared and ABORT set (`44_render_scheduler.md` R219). -/
theorem State.forcedRelease_eq (s : State) :
    s.forcedRelease =
      { s with
        buslog := s.buslog ++ (if s.rip then [busWord .endTransaction] else [])
        rip := false
        abort := s.abort || s.rip } := by
  unfold State.forcedRelease
  cases h : s.rip
  · cases s; simp_all
  · cases s; simp_all [State.emit]

/-! ### Transmitted rows -/

theorem isBlank_iff (o : ColumnOperations) : isBlank o = true ↔ ∀ r < 64, rowAny o r = false := by
  unfold isBlank rowAny
  rw [decide_eq_true_eq]
  constructor
  · intro h r _; simp [h]
  · intro h
    apply BitVec.eq_of_getLsbD_eq
    intro i hi
    rw [h i hi]; simp

/-- NextRow(r) is a transmitted row from r on with none before it, or 64 if there is none (`44_render_scheduler.md`
R210). -/
theorem nextRow_spec (o : ColumnOperations) (r : Nat) :
    (nextRow o r < 64 ∧ r ≤ nextRow o r ∧ rowAny o (nextRow o r) = true ∧
        ∀ q, r ≤ q → q < nextRow o r → rowAny o q = false) ∨
      (nextRow o r = 64 ∧ ∀ q, r ≤ q → q < 64 → rowAny o q = false) := by
  unfold nextRow
  cases hf : (List.range 64).find? (fun q => decide (r ≤ q) && rowAny o q) with
  | none =>
    right
    rw [List.find?_eq_none] at hf
    refine ⟨rfl, fun q h1 h2 => ?_⟩
    have := hf q (List.mem_range.2 h2)
    simpa [h1] using this
  | some n =>
    left
    have hf' := hf
    rw [List.find?_range_eq_some] at hf'
    obtain ⟨h1, h2, h3⟩ := hf'
    simp only [Bool.and_eq_true, decide_eq_true_eq] at h1
    refine ⟨by simpa using List.mem_range.1 h2, by simpa using h1.1, by simpa using h1.2, ?_⟩
    intro q hq hqn
    have := h3 q (by simpa using hqn)
    simpa [hq] using this

theorem nextRow_le (o : ColumnOperations) (r : Nat) : nextRow o r ≤ 64 := by
  rcases nextRow_spec o r with h | h <;> omega

/-! ### Steps -/

theorem step_of_nil {s : State} (h : s.pending = []) : step s = renderTurn s := by simp [step, h]

theorem step_of_cons {s : State} {e : PortEvent} {rest : List PortEvent} (h : s.pending = e :: rest) :
    step s = runEvent e (s.withPending rest) := by simp [step, h]

/-- What a turn of the RENDER agent can do: no step and no change, RenderStep, or the stop that no run reaches. -/
theorem renderTurn_cases (s : State) :
    (s.renderEnabled = false ∧ renderTurn s = .next s) ∨
      (s.renderEnabled = true ∧ s.renderHasNoLine = false ∧ renderTurn s = .next s.renderStep) ∨
      (s.renderEnabled = true ∧ s.renderHasNoLine = true ∧ renderTurn s = .fault .renderStuck) := by
  unfold renderTurn
  cases h1 : s.renderEnabled <;> cases h2 : s.renderHasNoLine <;> simp

/-- What a command word can do: the fault of the decoder, or its command's meaning. -/
theorem runCommand_cases (cw : Word) (s : State) :
    (∃ i, decode cw = .ok i ∧ runCommand cw s = exec i s) ∨
      (∃ e, decode cw = .error e ∧
        runCommand cw s = .next (s.raiseFault (decodeFaultCode e) (cwOpc cw) (cwA cw))) := by
  unfold runCommand
  cases h : decode cw with
  | ok i => exact .inl ⟨i, rfl, rfl⟩
  | error e => exact .inr ⟨e, rfl, rfl⟩

/-- What a step can do. -/
theorem step_next_cases {s t : State} (h : step s = .next t) :
    (s.pending = [] ∧ renderTurn s = .next t) ∨
      (∃ rest, s.pending = .renderTurn :: rest ∧ renderTurn (s.withPending rest) = .next t) ∨
      (∃ rest, s.pending = .reset :: rest ∧ t = State.resetWith s.cfg rest) ∨
      (∃ cw rest e, s.pending = .command cw :: rest ∧ decode cw = .error e ∧
        t = (s.withPending rest).raiseFault (decodeFaultCode e) (cwOpc cw) (cwA cw)) ∨
      (∃ cw rest i, s.pending = .command cw :: rest ∧ decode cw = .ok i ∧ exec i (s.withPending rest) = .next t) := by
  cases hp : s.pending with
  | nil =>
    rw [step_of_nil hp] at h
    exact .inl ⟨rfl, h⟩
  | cons e rest =>
    rw [step_of_cons hp] at h
    cases e with
    | renderTurn => exact .inr (.inl ⟨rest, rfl, h⟩)
    | reset =>
      simp only [runEvent, Host.Outcome.next.injEq] at h
      exact .inr (.inr (.inl ⟨rest, rfl, h.symm⟩))
    | command cw =>
      simp only [runEvent] at h
      rcases runCommand_cases cw (s.withPending rest) with ⟨i, hd, hr⟩ | ⟨e, hd, hr⟩
      · exact .inr (.inr (.inr (.inr ⟨cw, rest, i, rfl, hd, hr ▸ h⟩)))
      · rw [hr, Host.Outcome.next.injEq] at h
        exact .inr (.inr (.inr (.inl ⟨cw, rest, e, rfl, hd, h.symm⟩)))

/-- What RenderStep can be (`44_render_scheduler.md` R203), with the condition under which it is taken. -/
theorem State.renderStep_cases (s : State) :
    (s.renderActive = false ∧ s.renderStep = s.tickStart) ∨
      (s.renderActive = true ∧ s.schedState = .idle ∧ s.renderStep = s) ∨
      (s.renderActive = true ∧ s.schedState = .frameStart ∧ s.renderStep = s.frameStartStep) ∨
      (s.renderActive = true ∧ s.schedState = .columnFill ∧ s.renderStep = s.columnFillStep) ∨
      (s.renderActive = true ∧ s.schedState = .swathFlush ∧ s.renderStep = s.flushStep) ∨
      (s.renderActive = true ∧ s.schedState = .frameDone ∧ s.renderStep = s.frameDoneStep) := by
  unfold State.renderStep
  cases s.renderActive <;> cases s.schedState <;> simp

/-- What a step of the swath flush can be (`44_render_scheduler.md` R203, R207 to R215). -/
theorem State.flushStep_cases (s : State) :
    (s.flushPhase = .diff ∧ s.flushStep = s.diffStep) ∨
      (s.flushPhase = .busCmd ∧ s.flushStep = s.busCmdStep) ∨
      (s.flushPhase ≠ .diff ∧ s.flushPhase ≠ .busCmd ∧ s.abort = true ∧ s.flushStep = s.abortStep) ∨
      (s.flushPhase = .busSelCol ∧ s.abort = false ∧ s.flushStep = s.busSelColStep) ∨
      (s.flushPhase = .rowCmd ∧ s.abort = false ∧ s.flushStep = s.rowCmdStep) ∨
      (s.flushPhase = .rowSel ∧ s.abort = false ∧ s.flushStep = s.rowSelStep) ∨
      (s.flushPhase = .rowDph ∧ s.abort = false ∧ s.flushStep = s.rowDphStep) ∨
      (s.flushPhase = .rowWr ∧ s.abort = false ∧ s.flushStep = s.rowWrStep) ∨
      (s.flushPhase = .busEnd ∧ s.abort = false ∧ s.flushStep = s.busEndStep) := by
  unfold State.flushStep
  cases s.flushPhase <;> cases s.abort <;> simp

end Sys2Proof.Machine
end

