-- ==== Sys2Proof/Laws/PerInstr.lean ====
section
/-! SUPPORT. A law per command: the fields of a command's word are the fields its encoding names. -/

namespace Sys2Proof

theorem cwOpc_cwOf (o r a b : Byte) (i : Word32) : cwOpc (cwOf o r a b i) = o := by
  apply BitVec.eq_of_getLsbD_eq
  intro k hk
  simp only [cwOpc, cwOf, BitVec.getLsbD_extractLsb', BitVec.getLsbD_append]
  simp [hk, show ¬ 56 + k < 32 by omega, show ¬ 56 + k - 32 < 8 by omega, show ¬ 56 + k - 32 - 8 < 8 by omega,
    show ¬ 56 + k - 32 - 8 - 8 < 8 by omega, show 56 + k - 32 - 8 - 8 - 8 = k by omega]

theorem cwRsv_cwOf (o r a b : Byte) (i : Word32) : cwRsv (cwOf o r a b i) = r := by
  apply BitVec.eq_of_getLsbD_eq
  intro k hk
  simp only [cwRsv, cwOf, BitVec.getLsbD_extractLsb', BitVec.getLsbD_append]
  simp [hk, show ¬ 48 + k < 32 by omega, show ¬ 48 + k - 32 < 8 by omega, show ¬ 48 + k - 32 - 8 < 8 by omega,
    show 48 + k - 32 - 8 - 8 = k by omega]

theorem cwA_cwOf (o r a b : Byte) (i : Word32) : cwA (cwOf o r a b i) = a := by
  apply BitVec.eq_of_getLsbD_eq
  intro k hk
  simp only [cwA, cwOf, BitVec.getLsbD_extractLsb', BitVec.getLsbD_append]
  simp [hk, show ¬ 40 + k < 32 by omega, show ¬ 40 + k - 32 < 8 by omega,
    show 40 + k - 32 - 8 = k by omega]

theorem cwB_cwOf (o r a b : Byte) (i : Word32) : cwB (cwOf o r a b i) = b := by
  apply BitVec.eq_of_getLsbD_eq
  intro k hk
  simp only [cwB, cwOf, BitVec.getLsbD_extractLsb', BitVec.getLsbD_append]
  simp [hk, show ¬ 32 + k < 32 by omega, show 32 + k - 32 = k by omega]

theorem cwImm_cwOf (o r a b : Byte) (i : Word32) : cwImm (cwOf o r a b i) = i := by
  apply BitVec.eq_of_getLsbD_eq
  intro k hk
  simp only [cwImm, cwOf, BitVec.getLsbD_extractLsb', BitVec.getLsbD_append]
  simp [hk]

end Sys2Proof

namespace Sys2Proof.Laws

open Sys2Proof

/-- The fields of a command's word (`30_encoding.md` R80, R81): its opcode byte, a zero RSV, its A, B and IMM. -/
def EncodeFields.Statement (i : Instr) : Prop :=
  cwOpc (encode i) = opcodeByte i ∧ cwRsv (encode i) = 0#8 ∧ cwA (encode i) = aField i ∧ cwB (encode i) = bField i ∧
    cwImm (encode i) = immField i

theorem EncodeFields.of_cwOf (i : Instr) : EncodeFields.Statement i :=
  ⟨cwOpc_cwOf .., cwRsv_cwOf .., cwA_cwOf .., cwB_cwOf .., cwImm_cwOf ..⟩

theorem EncodeFields.ringPush (v : Sample) : EncodeFields.Statement (.ringPush v) := EncodeFields.of_cwOf _
theorem EncodeFields.ringAt (o : Word32) : EncodeFields.Statement (.ringAt o) := EncodeFields.of_cwOf _
theorem EncodeFields.pxPeek (c r : Byte) : EncodeFields.Statement (.pxPeek c r) := EncodeFields.of_cwOf _
theorem EncodeFields.pxPoke (c r : Byte) (v : Bool) : EncodeFields.Statement (.pxPoke c r v) := EncodeFields.of_cwOf _
theorem EncodeFields.pxClear : EncodeFields.Statement .pxClear := EncodeFields.of_cwOf _
theorem EncodeFields.pxSwap : EncodeFields.Statement .pxSwap := EncodeFields.of_cwOf _
theorem EncodeFields.pxPeekLive (c r : Byte) : EncodeFields.Statement (.pxPeekLive c r) := EncodeFields.of_cwOf _
theorem EncodeFields.diffSwath (l : Byte) : EncodeFields.Statement (.diffSwath l) := EncodeFields.of_cwOf _
theorem EncodeFields.opsIsBlank : EncodeFields.Statement .opsIsBlank := EncodeFields.of_cwOf _
theorem EncodeFields.swathRender : EncodeFields.Statement .swathRender := EncodeFields.of_cwOf _
theorem EncodeFields.zoomSet (v : Word32) : EncodeFields.Statement (.zoomSet v) := EncodeFields.of_cwOf _
theorem EncodeFields.zoomOffset (c : Byte) : EncodeFields.Statement (.zoomOffset c) := EncodeFields.of_cwOf _
theorem EncodeFields.acqSample (v : Sample) : EncodeFields.Statement (.acqSample v) := EncodeFields.of_cwOf _
theorem EncodeFields.renderTick : EncodeFields.Statement .renderTick := EncodeFields.of_cwOf _
theorem EncodeFields.regRead (n : Byte) : EncodeFields.Statement (.regRead n) := EncodeFields.of_cwOf _
theorem EncodeFields.regWrite (n : Byte) (v : Word32) : EncodeFields.Statement (.regWrite n v) := EncodeFields.of_cwOf _

end Sys2Proof.Laws
end

