-- ==== Sys2Proof/Laws/Runs.lean ====
section
/-! SUPPORT. What is still to arrive does not change what a step does, so each finite part of an endless run is a run of
`core` from a state whose `pending` lists that part's events (log 1, log 11). -/

namespace Sys2Proof.Machine

open Sys2Proof

theorem step_arrive (s : State) (e : PortEvent) : step (s.arrive e) = runEvent e s := rfl

/-- A run's next state is what its event does to the state. -/
theorem IsRun.next {σ : Nat → State} {events : Nat → PortEvent} (h : IsRun σ events) (n : Nat) :
    runEvent (events n) (σ n) = .next (σ (n + 1)) := h n

theorem State.emit_withPending (s : State) (p : List PortEvent) (ev : BusEvent) :
    (s.withPending p).emit ev = (s.emit ev).withPending p := rfl

theorem State.commitRow_withPending (s : State) (p : List PortEvent) (l r : Nat) :
    (s.withPending p).commitRow l r = (s.commitRow l r).withPending p := rfl

theorem State.performItem_withPending (s : State) (p : List PortEvent) (l : Nat) (it : SwathItem) :
    (s.withPending p).performItem l it = (s.performItem l it).withPending p := by
  unfold State.performItem
  split <;> rfl

theorem State.performItems_withPending (p : List PortEvent) (l : Nat) : ∀ (items : List SwathItem) (s : State),
    (s.withPending p).performItems l items = (s.performItems l items).withPending p
  | [], _ => rfl
  | it :: rest, s => by
    rw [State.performItems, State.performItem_withPending, State.performItems_withPending p l rest]
    rfl

theorem State.afterFlush_withPending (s : State) (p : List PortEvent) :
    (s.withPending p).afterFlush = s.afterFlush.withPending p := rfl

theorem State.diffStep_withPending (s : State) (p : List PortEvent) :
    (s.withPending p).diffStep = s.diffStep.withPending p := by
  change (if isBlank (s.diffSwath s.flushLeft) then _ else _) =
    State.withPending (if isBlank (s.diffSwath s.flushLeft) then _ else _) p
  split <;> rfl

theorem State.columnFillStep_withPending (s : State) (p : List PortEvent) :
    (s.withPending p).columnFillStep = s.columnFillStep.withPending p := by
  change (if s.tickLeft = 0#2 then _ else _) = State.withPending (if s.tickLeft = 0#2 then _ else _) p
  split <;> rfl

theorem State.flushStep_withPending (s : State) (p : List PortEvent) :
    (s.withPending p).flushStep = s.flushStep.withPending p := by
  unfold State.flushStep
  simp only [show (s.withPending p).flushPhase = s.flushPhase from rfl, show (s.withPending p).abort = s.abort from rfl]
  cases s.flushPhase
  case diff => exact s.diffStep_withPending p
  case busCmd => rfl
  all_goals (dsimp only; split <;> rfl)

theorem State.frameDoneStep_withPending (s : State) (p : List PortEvent) :
    (s.withPending p).frameDoneStep = s.frameDoneStep.withPending p := by
  unfold State.frameDoneStep State.clearPerPolicy
  simp only [show (s.withPending p).swapRoles.cfg = s.swapRoles.cfg from rfl]
  split <;> rfl

theorem State.renderStep_withPending (s : State) (p : List PortEvent) :
    (s.withPending p).renderStep = s.renderStep.withPending p := by
  unfold State.renderStep
  simp only [show (s.withPending p).renderActive = s.renderActive from rfl,
    show (s.withPending p).schedState = s.schedState from rfl]
  split
  · cases s.schedState
    case columnFill => exact s.columnFillStep_withPending p
    case swathFlush => exact s.flushStep_withPending p
    case frameDone => exact s.frameDoneStep_withPending p
    all_goals rfl
  · rfl

theorem State.runWhileActive_withPending (p : List PortEvent) : ∀ (fuel : Nat) (s : State),
    State.runWhileActive fuel (s.withPending p) = (State.runWhileActive fuel s).withPending p
  | 0, _ => rfl
  | fuel + 1, s => by
    unfold State.runWhileActive
    simp only [show (s.withPending p).renderActive = s.renderActive from rfl]
    split
    · rw [State.renderStep_withPending, State.runWhileActive_withPending p fuel]
    · rfl

theorem State.acquire_withPending (s : State) (p : List PortEvent) (v : Sample) :
    (s.withPending p).acquire v = (s.acquire v).withPending p := by
  unfold State.acquire State.forcedRelease
  simp only [show (s.withPending p).rip = s.rip from rfl]
  split <;> rfl

theorem State.countSample_withPending (s : State) (p : List PortEvent) :
    (s.withPending p).countSample = s.countSample.withPending p := by
  unfold State.countSample
  simp only [show (s.withPending p).tickcnt = s.tickcnt from rfl, show (s.withPending p).cfg = s.cfg from rfl]
  split
  · exact State.runWhileActive_withPending p tickFuel { s with tickcnt := 0#16, renderReq := true }.tickStart
  · rfl

/-- An outcome with its next state's `pending` replaced. -/
def outcomeWithPending (p : List PortEvent) : Host.Outcome State Fault Refusal → Host.Outcome State Fault Refusal
  | .next t => .next (t.withPending p)
  | .fault r => .fault r
  | .refused r => .refused r

theorem gatedWriter_withPending (i : Instr) (s : State) (p : List PortEvent)
    {e e' : Host.Outcome State Fault Refusal} (h : e' = outcomeWithPending p e) :
    gatedWriter i (s.withPending p) e' = outcomeWithPending p (gatedWriter i s e) := by
  unfold gatedWriter
  simp only [show writersGated (s.withPending p) = writersGated s from rfl]
  split
  · rfl
  · exact h

/-- No command's meaning depends on what is still to arrive. -/
theorem exec_withPending (i : Instr) (s : State) (p : List PortEvent) :
    exec i (s.withPending p) = outcomeWithPending p (exec i s) := by
  cases i with
  | ringPush v => exact gatedWriter_withPending _ s p rfl
  | ringAt o => rfl
  | pxPeek c r => simp only [exec, execPxPeek]; split <;> rfl
  | pxPoke c r v => exact gatedWriter_withPending _ s p (by split <;> rfl)
  | pxClear => exact gatedWriter_withPending _ s p rfl
  | pxSwap => exact gatedWriter_withPending _ s p rfl
  | pxPeekLive c r => simp only [exec, execPxPeekLive]; split <;> rfl
  | diffSwath l => exact gatedWriter_withPending _ s p (by split <;> rfl)
  | opsIsBlank => rfl
  | swathRender =>
    refine gatedWriter_withPending _ s p ?_
    rw [show (s.withPending p).ops = s.ops from rfl, show (s.withPending p).opsLeft = s.opsLeft from rfl,
      State.performItems_withPending]
    rfl
  | zoomSet v => rfl
  | zoomOffset c => simp only [exec, execZoomOffset]; split <;> rfl
  | acqSample v =>
    simp only [exec, execAcqSample, State.acquire_withPending, State.countSample_withPending,
      show countsSamples (s.withPending p) = countsSamples s from rfl]
    split <;> rfl
  | renderTick =>
    simp only [exec, execRenderTick, show (s.withPending p).cfg = s.cfg from rfl]
    split <;> rfl
  | regRead n =>
    simp only [exec, execRegRead, show regValue n (s.withPending p) = regValue n s from rfl]
    split <;> rfl
  | regWrite n v =>
    simp only [exec, execRegWrite, show regValue n (s.withPending p) = regValue n s from rfl]
    split
    · rfl
    · split <;> rfl

theorem renderTurn_withPending (s : State) (p : List PortEvent) :
    renderTurn (s.withPending p) = outcomeWithPending p (renderTurn s) := by
  simp only [renderTurn, show (s.withPending p).renderEnabled = s.renderEnabled from rfl,
    show (s.withPending p).renderHasNoLine = s.renderHasNoLine from rfl, State.renderStep_withPending]
  split
  · split <;> rfl
  · rfl

/-- No port event's effect depends on what is still to arrive. -/
theorem runEvent_withPending (e : PortEvent) (s : State) (p : List PortEvent) :
    runEvent e (s.withPending p) = outcomeWithPending p (runEvent e s) := by
  cases e with
  | command cw =>
    simp only [runEvent, runCommand]
    split
    · exact exec_withPending _ s p
    · rfl
  | renderTurn => exact renderTurn_withPending s p
  | reset => rfl

/-- The first `n` events of an interleaving from event `k` on. -/
def eventsFrom (events : Nat → PortEvent) (k : Nat) : Nat → List PortEvent
  | 0 => []
  | n + 1 => events k :: eventsFrom events (k + 1) n

/-- The run of a machine from a state whose step answers a next state. -/
theorem run_of_step {M : Host.Core} {n : Nat} {s t : M.State} {o : Host.Outcome M.State M.Fault M.Refusal}
    (h : M.step s = .next t) (hr : M.run n t = o) : M.run (n + 1) s = o := by
  rw [Host.Core.run, h]
  exact hr

/-- Each finite part of an endless run is a run of `core` with that part's events pending. -/
theorem IsRun.core_run {σ : Nat → State} {events : Nat → PortEvent} (h : IsRun σ events) (rest : List PortEvent) :
    ∀ (n k : Nat), Host.Core.run core n ((σ k).withPending (eventsFrom events k n ++ rest)) =
      .next ((σ (k + n)).withPending rest)
  | 0, _ => rfl
  | n + 1, k => by
    have hs : Host.Core.step core ((σ k).withPending (eventsFrom events k (n + 1) ++ rest)) =
        .next ((σ (k + 1)).withPending (eventsFrom events (k + 1) n ++ rest)) := by
      change runEvent (events k) ((σ k).withPending (eventsFrom events (k + 1) n ++ rest)) = _
      rw [runEvent_withPending, h.next k]
      rfl
    have hr := IsRun.core_run h rest n (k + 1)
    rw [show k + 1 + n = k + (n + 1) by omega] at hr
    exact run_of_step hs hr

end Sys2Proof.Machine
end

