-- ==== Sys2Proof/Machine/Assembler.lean ====
section
/-! DEFINITION. The assembler spelling of commands and bus events (`30_encoding.md` R89, R95) and of the register names
(`45_register_access.md` R250). Its encoding is `encode`. -/

namespace Sys2Proof.Machine

open Sys2Proof

/-- The name of a register number (R250), if it has one. -/
def regName (n : Byte) : Option String :=
  match n.toNat with
  | 0x00 => some "CTRL"
  | 0x01 => some "STATUS"
  | 0x02 => some "CONFIG"
  | 0x03 => some "FAULT_INFO"
  | 0x04 => some "CAPACITY"
  | 0x05 => some "DIVISOR"
  | 0x06 => some "MAX_ZOOM"
  | 0x07 => some "MIN_ZOOM"
  | 0x08 => some "ROW_SCALE"
  | 0x09 => some "TICK_SAMPLES"
  | 0x10 => some "CURSOR"
  | 0x11 => some "ZOOM"
  | 0x12 => some "FZOOM"
  | 0x13 => some "BASE"
  | 0x14 => some "SCHED_COL"
  | 0x15 => some "TICK_LEFT"
  | 0x16 => some "TICKCNT"
  | 0x17 => some "FLUSH"
  | 0x18 => some "EL_LO"
  | 0x19 => some "EL_HI"
  | 0x1A => some "WL_LO"
  | 0x1B => some "WL_HI"
  | 0x1C => some "ER_LO"
  | 0x1D => some "ER_HI"
  | 0x1E => some "WR_LO"
  | 0x1F => some "WR_HI"
  | 0x20 => some "OPS_LEFT"
  | _ => none

/-- An unsigned operand, decimal. -/
def asmNat (w : Nat) : String := toString w

/-- A register operand: its name, or its number. -/
def asmReg (n : Byte) : String := (regName n).getD (asmNat n.toNat)

/-- The assembler line of a command (R89). -/
def asmLine : Instr → String
  | .ringPush v => "RING_PUSH " ++ asmNat v.toNat
  | .ringAt o => "RING_AT " ++ toString (s32 o)
  | .pxPeek c r => "PX_PEEK " ++ asmNat c.toNat ++ ", " ++ asmNat r.toNat
  | .pxPoke c r v => "PX_POKE " ++ asmNat c.toNat ++ ", " ++ asmNat r.toNat ++ ", " ++ asmNat v.toNat
  | .pxClear => "PX_CLEAR"
  | .pxSwap => "PX_SWAP"
  | .pxPeekLive c r => "PX_PEEK_LIVE " ++ asmNat c.toNat ++ ", " ++ asmNat r.toNat
  | .diffSwath l => "DIFF_SWATH " ++ asmNat l.toNat
  | .opsIsBlank => "OPS_ISBLANK"
  | .swathRender => "SWATH_RENDER"
  | .zoomSet v => "ZOOM_SET " ++ toString (s32 v)
  | .zoomOffset c => "ZOOM_OFFSET " ++ asmNat c.toNat
  | .acqSample v => "ACQ_SAMPLE " ++ asmNat v.toNat
  | .renderTick => "RENDER_TICK"
  | .regRead n => "REG_READ " ++ asmReg n
  | .regWrite n v => "REG_WRITE " ++ asmReg n ++ ", " ++ asmNat v.toNat

/-- The spelling of a bus event (R95). -/
def asmEvent : BusEvent → String
  | .cmd => "CMD"
  | .data => "DATA"
  | .selCol a b => "SELCOL " ++ asmNat a.toNat ++ ", " ++ asmNat b.toNat
  | .selRow a b => "SELROW " ++ asmNat a.toNat ++ ", " ++ asmNat b.toNat
  | .write v => "WRITE " ++ asmNat v.toNat
  | .endTransaction => "END"

end Sys2Proof.Machine
end

