-- ==== Sys2Proof/Tests/Slice0.lean ====
section
/-! SUPPORT. Tests with expected values from `95_test_vectors.md` and the rules' own examples, and for every obligation
with hypotheses a named state and operands that meet them. -/

namespace Sys2Proof.Tests

open Sys2Proof Sys2Proof.Machine

/-! ### Configurations and states of `95_test_vectors.md` section 0 -/

/-- TC1. -/
def tc1 : Config where
  zoomMode := .unsigned 0
  minZoomLess1 := 0
  divisorLess1 := 1
  rowScaleLess1 := 3
  tickSamplesLess1 := 1
  clearPolicy := .clearOnSwap
  mirror := .off
  schedMode := .dualTimer
  offsetPolicy := .frameRelative
  colsPerTick := .two

/-- TC2. -/
def tc2 : Config := { tc1 with mirror := .on }

/-- TC3. -/
def tc3 : Config := { tc1 with schedMode := .singleTimer }

/-- TC4. -/
def tc4 : Config := { tc1 with colsPerTick := .one }

/-- TCZ. -/
def tcz : Config := { tc1 with zoomMode := .unsigned 3 }

/-- TCS. -/
def tcs : Config :=
  { tc1 with zoomMode := .signed 3, minZoomLess1 := 7, divisorLess1 := 0, offsetPolicy := .continuous }

/-- After reset. -/
def atReset (c : Config) : State := State.resetWith c []

/-- After reset and SCHED_OFF. -/
def off (c : Config) : State := { atReset c with schedEn := false }

/-- After reset, with a tick running although SCHED_EN = 0. -/
def running (c : Config) : State := { off c with renderActive := true, schedState := .columnFill }

/-- With these events to arrive. -/
def arriving (s : State) (p : List PortEvent) : State := { s with pending := p }

/-- The next state, if there is one. -/
def next? : Host.Outcome State Fault Refusal → Option State
  | .next s => some s
  | .fault _ => none
  | .refused _ => none

/-- What `f` sees in the state after `i`. -/
def after {α : Type} (i : Instr) (s : State) (f : State → α) : Option α := (next? (exec i s)).map f

/-- What the event does, as far as it gives a next state. -/
def advance (s : State) (e : PortEvent) : State := (next? (step (s.arrive e))).getD s

theorem step_advance {s : State} {e : PortEvent} (h : (next? (step (s.arrive e))).isSome = true) :
    step (s.arrive e) = .next (advance s e) := by
  unfold advance
  cases hs : step (s.arrive e) <;> simp_all [next?]

/-- STATUS and FAULT_INFO after the command word. -/
def faultAfter (cw : Word) (s : State) : Option (Word32 × Word32) :=
  (next? (runCommand cw s)).map fun t => (statusWord t, faultInfoWord t.faultInfo)

/-- P5 (`95_test_vectors.md`) after its step 15: the next micro-step is RowWrStep of row 61 of swath 0. -/
def midSwath : State :=
  { atReset tc1 with
    p0 := PixBuf.write (PixBuf.write PixBuf.blank 0 0x2000000000000000#64) 1 0x8000000000000000#64
    ops := ⟨0#64, 0x2000000000000000#64, 0#64, 0x8000000000000000#64⟩
    ring := [(1, 200#16), (2, 8#16)], cursor := 2#24, base := 2#24, schedState := .swathFlush, schedCol := 2#8
    flushPhase := .rowWr, flushRow := 61#7, renderActive := true, rip := true
    buslog := [0x1000#16, 0x3000#16, 0x1000#16, 0x4F7D#16, 0x2000#16] }

/-- The same swath at another phase. -/
def midAt (p : FlushPhase) : State := { midSwath with flushPhase := p }

/-- The same swath before its DiffStep (P5 after its step 9). -/
def midDiff : State := { midSwath with flushPhase := .diff, flushRow := 0#7, rip := false, buslog := [] }

/-- The same swath at BUS_END, both rows written (P5 after its step 25, had nothing preempted it). -/
def midEnd : State := { midSwath with p1 := midSwath.p0, flushPhase := .busEnd, flushRow := 64#7 }

/-- P5's endless interleaving from its step 10 on: its ACQ_SAMPLE 5 after the first RowWrStep, RENDER turns else. -/
def p5Events (n : Nat) : PortEvent := if n = 7 then .command (encode (.acqSample 5#16)) else .renderTurn

/-! ### WellFormed refuses each ill-formed term, and admits the last legal one -/

theorem test_illFormed_column : (Instr.pxPeek 128#8 0#8).wellFormed = false := by decide
theorem test_illFormed_row : (Instr.pxPoke 0#8 64#8 true).wellFormed = false := by decide
theorem test_illFormed_live : (Instr.pxPeekLive 200#8 63#8).wellFormed = false := by decide
theorem test_illFormed_oddLeft : (Instr.diffSwath 1#8).wellFormed = false := by decide
theorem test_illFormed_leftTooLarge : (Instr.diffSwath 128#8).wellFormed = false := by decide
theorem test_illFormed_zoomColumn : (Instr.zoomOffset 128#8).wellFormed = false := by decide
theorem test_illFormed_registerGap : (Instr.regRead 0x0A#8).wellFormed = false := by decide
theorem test_illFormed_registerEnd : (Instr.regRead 0x21#8).wellFormed = false := by decide
theorem test_illFormed_readOnly : (Instr.regWrite 1#8 0#32).wellFormed = false := by decide
theorem test_wellFormed_boundaries :
    (Instr.pxPeek 127#8 63#8).wellFormed = true ∧ (Instr.diffSwath 126#8).wellFormed = true ∧
      (Instr.regRead 0x09#8).wellFormed = true ∧ (Instr.regRead 0x10#8).wellFormed = true ∧
      (Instr.regRead 0x20#8).wellFormed = true := by decide

/-! ### One word per command, written out from `30_encoding.md` R80 to R83 -/

theorem test_decode_ringPush : decode 0x0100000000001234#64 = .ok (.ringPush 0x1234#16) := by decide
theorem test_decode_ringAt : decode 0x0200000080000000#64 = .ok (.ringAt 0x80000000#32) := by decide
theorem test_decode_pxPeek : decode 0x10007F3F00000000#64 = .ok (.pxPeek 127#8 63#8) := by decide
theorem test_decode_pxPoke : decode 0x1100040500000001#64 = .ok (.pxPoke 4#8 5#8 true) := by decide
theorem test_decode_pxClear : decode 0x1200000000000000#64 = .ok .pxClear := by decide
theorem test_decode_pxSwap : decode 0x1300000000000000#64 = .ok .pxSwap := by decide
theorem test_decode_pxPeekLive : decode 0x1400040500000000#64 = .ok (.pxPeekLive 4#8 5#8) := by decide
theorem test_decode_diffSwath : decode 0x2000040000000000#64 = .ok (.diffSwath 4#8) := by decide
theorem test_decode_opsIsBlank : decode 0x2100000000000000#64 = .ok .opsIsBlank := by decide
theorem test_decode_swathRender : decode 0x2200000000000000#64 = .ok .swathRender := by decide
theorem test_decode_zoomSet : decode 0x30000000FFFFFFFD#64 = .ok (.zoomSet 0xFFFFFFFD#32) := by decide
theorem test_decode_zoomOffset : decode 0x31007F0000000000#64 = .ok (.zoomOffset 127#8) := by decide
theorem test_decode_acqSample : decode 0x4000000000000005#64 = .ok (.acqSample 5#16) := by decide
theorem test_decode_renderTick : decode 0x4100000000000000#64 = .ok .renderTick := by decide
theorem test_decode_regRead : decode 0x50001A0000000000#64 = .ok (.regRead 0x1A#8) := by decide
theorem test_decode_regWrite : decode 0x51000000FFFFFFFF#64 = .ok (.regWrite 0#8 0xFFFFFFFF#32) := by decide
theorem test_decode_illegal :
    decode 0#64 = .error .illegalOpcode ∧ decode 0xFF00000000000000#64 = .error .illegalOpcode := by decide
theorem test_decode_reserved :
    decode 0x0101000000000000#64 = .error .reservedField ∧ decode 0x0100000000010000#64 = .error .reservedField ∧
      decode 0x1100040500000002#64 = .error .reservedField ∧ decode 0x4100010000000000#64 = .error .reservedField := by
  decide
theorem test_encode_schedOff : encode schedOff = 0x5100000000000000#64 ∧ encode schedOn = 0x5100000000000001#64 := by
  decide
theorem test_busWords :
    busWord .cmd = 0x1000#16 ∧ busWord .data = 0x2000#16 ∧ busWord (.selCol 2#6 2#6) = 0x3082#16 ∧
      busWord (.selRow 61#6 61#6) = 0x4F7D#16 ∧ busWord (.write 0xF0#8) = 0x50F0#16 ∧
      busWord .endTransaction = 0x6000#16 := by decide
theorem test_asmLine : asmLine (.regRead 1#8) = "REG_READ STATUS" := by decide

/-! ### Faults: vectors E1 to E10 -/

theorem test_fault_e1 : faultAfter 0#64 (atReset tc1) = some (0x00010000#32, 0x00000001#32) := by decide
theorem test_fault_e3 : faultAfter 0x0101000000000000#64 (atReset tc1) = some (0x00010000#32, 0x00000102#32) := by decide
theorem test_fault_e6 : faultAfter 0x1100040500000002#64 (off tc1) = some (0x00010000#32, 0x00041102#32) := by decide
theorem test_fault_e8 : faultAfter 0x4100010000000000#64 (atReset tc3) = some (0x00010000#32, 0x00014102#32) := by decide
theorem test_fault_e9 :
    ((next? (runCommand 0#64 (atReset tc1))).bind (faultAfter 0x0100000000000007#64)) =
      some (0x00050000#32, 0x00000001#32) := by decide

/-! ### One command each: vectors S, X, D, Z, K, G -/

theorem test_ringPush_s7 :
    after (.ringPush 9#16) { off tc1 with cursor := 255#24 } (fun t => (t.cursor, t.ring)) = some (0#24, [(0, 9#16)]) := by
  decide
theorem test_ringPush_e4 : faultAfter 0x0100000000000007#64 (atReset tc1) = some (0x00040000#32, 0x00000104#32) := by decide
theorem test_ringAt_s5 :
    after (.ringAt 0x80000000#32) { off tc1 with cursor := 1#24, ring := [(1, 0x1234#16)] } (·.result) =
      some 0x1234#32 := by decide
theorem test_ringAt_p3 :
    after (.ringAt 0xFFFFFEFF#32) { off tc1 with cursor := 3#24, ring := [(1, 0x1111#16), (2, 0x2222#16), (3, 0x3333#16)] }
      (·.result) = some 0x2222#32 := by decide
theorem test_pxPeek_x8 : after (.pxPeek 4#8 5#8) ((off tc1).poke 4 5 true) (·.result) = some 1#32 := by decide
theorem test_pxPeek_x2 : faultAfter 0x1000800000000000#64 (atReset tc1) = some (0x00020000#32, 0x00801005#32) := by decide
theorem test_pxPoke_x4 :
    after (.pxPoke 3#8 32#8 true) ((off tc1).poke 3 31 true) (fun t => PixBuf.read t.p0 3) =
      some 0x0000000180000000#64 := by decide
theorem test_pxPoke_x3 : faultAfter 0x1100004000000001#64 (off tc1) = some (0x00020000#32, 0x00001105#32) := by decide
theorem test_pxClear_x6 :
    after .pxClear (((off tc1).poke 3 31 true).pixWrite true 3 7#64) (fun t => (PixBuf.read t.p0 3, PixBuf.read t.p1 3)) =
      some (0#64, 7#64) := by decide
theorem test_pxClear_x10 : faultAfter 0x1200000000000000#64 (atReset tc1) = some (0x00040000#32, 0x00001204#32) := by decide
theorem test_pxSwap_x7 :
    after .pxSwap ((off tc1).poke 4 5 true) (fun t => (statusWord t, t.pixel t.sh 4 5, t.pixel t.lv 4 5)) =
      some (0x00000010#32, false, true) := by decide
theorem test_pxPeekLive_x7 :
    after (.pxPeekLive 4#8 5#8) ((off tc1).poke 4 5 true).swapRoles (·.result) = some 1#32 := by decide
theorem test_diffSwath_w8 :
    after (.diffSwath 0#8) (((off tc1).pixWrite false 0 6#64).pixWrite true 0 3#64) (·.ops) =
      some ⟨1#64, 4#64, 0#64, 0#64⟩ := by decide
theorem test_diffSwath_d10 :
    after (.diffSwath 4#8) (((off tc2).pixWrite true 4 0x20#64).pixWrite false 5 0x200#64) (·.ops) =
      some ⟨0x20#64, 0x200#64, 0#64, 0x220#64⟩ := by decide
theorem test_opsIsBlank_d8 : after .opsIsBlank (atReset tc1) (·.result) = some 1#32 := by decide
theorem test_opsIsBlank_p1 :
    after .opsIsBlank { off tc1 with ops := ⟨0#64, 0x20#64, 0#64, 0#64⟩ } (·.result) = some 0#32 := by decide
theorem test_swathRender_d7 :
    after .swathRender (((off tc1).poke 127 0 true).setOps ⟨0#64, 0#64, 0#64, 1#64⟩ 126#7) (fun t => (t.buslog, t.result)) =
      some ([0x1000#16, 0x3FFF#16, 0x1000#16, 0x4000#16, 0x2000#16, 0x50F0#16, 0x6000#16], 1#32) := by decide
theorem test_swathRender_d9 : after .swathRender (off tc1) (fun t => (t.buslog, t.result)) = some ([], 0#32) := by decide
theorem test_zoomSet_z2 : after (.zoomSet 0xFFFFFFFD#32) (atReset tcz) (fun t => (t.zoom, t.result)) = some (1#32, 1#32) := by
  decide
theorem test_zoomSet_z9 : after (.zoomSet 0xFFFFFFEC#32) (atReset tcs) (·.result) = some 0xFFFFFFF8#32 := by decide
theorem test_zoomOffset_z4 :
    after (.zoomOffset 127#8) { atReset tcz with zoom := 3#32 } (·.result) = some 0xFFFFFD06#32 := by decide
theorem test_zoomOffset_z15 :
    after (.zoomOffset 127#8) { atReset tcs with zoom := 4#32 } (·.result) = some 0xFFFFFFE1#32 := by decide
theorem test_acqSample_k10 :
    after (.acqSample 5#16) (midAt .rowCmd) (fun t => (t.buslog.getLast?, t.rip, t.abort, t.cursor)) =
      some (some 0x6000#16, false, true, 3#24) := by decide
theorem test_acqSample_k11 :
    after (.acqSample 40#16) { atReset tc3 with cursor := 1#24, ring := [(1, 100#16)], tickcnt := 1#16 }
      (fun t => (t.buslog, t.base, t.tickcnt, t.renderActive)) =
      some ([0x1000#16, 0x3000#16, 0x1000#16, 0x4D75#16, 0x2000#16, 0x500F#16, 0x1000#16, 0x4FFF#16, 0x2000#16, 0x50F0#16,
        0x6000#16], 2#24, 0#16, false) := by decide
theorem test_renderTick_k1 : after .renderTick (atReset tc1) statusWord = some 8#32 := by decide
theorem test_renderTick_e7 : faultAfter 0x4100000000000000#64 (atReset tc3) = some (0x00010000#32, 0x00004103#32) := by
  decide
theorem test_regRead_g3 :
    [tc1, tc2, tc3, tc4, tcs].map (fun c => after (.regRead 2#8) (atReset c) (·.result)) =
      [some 0x4A#32, some 0x4E#32, some 0x42#32, some 0x2A#32, some 0x5B#32] := by decide
theorem test_regRead_d14 :
    after (.regRead 0x1F#8) { off tc1 with ops := ⟨0#64, 0#64, 0#64, 0x8000000000000000#64⟩ } (·.result) =
      some 0x80000000#32 := by decide
theorem test_regWrite_g9 : after (.regWrite 0#8 0xFFFFFFFF#32) (off tc1) ctrlWord = some 1#32 := by decide
theorem test_regWrite_g7 : faultAfter 0x5100010000000000#64 (atReset tc1) = some (0x00010000#32, 0x00015107#32) := by decide

/-! ### Micro-steps: program P5, and the row transform of section 2.6 -/

theorem test_sampleToRow :
    [0#16, 3#16, 4#16, 8#16, 40#16, 200#16, 252#16, 255#16, 256#16, 65535#16].map (sampleToRow tc1) =
      [63, 63, 62, 61, 53, 13, 0, 0, 0, 0] := by decide
theorem test_columnFill_p5 :
    (let t := { midSwath with
        p0 := PixBuf.blank, schedState := .columnFill, schedCol := 1#8, tickLeft := 1#2 }.columnFillStep
     (PixBuf.read t.p0 1, t.schedCol, t.schedState)) = (0x8000000000000000#64, 2#8, .swathFlush) := by decide
theorem test_rowWr_p5 :
    (let t := midSwath.renderStep
     (t.buslog.getLast?, PixBuf.read t.p1 0, t.flushRow, t.flushPhase)) =
      (some 0x500F#16, 0x2000000000000000#64, 63#7, .rowCmd) := by decide
theorem test_frameDone_clears :
    (let t := { midSwath with schedState := .frameDone, flushPhase := .diff, rip := false }.renderStep
     (t.shadowSel, PixBuf.read t.p1 0, PixBuf.read t.p0 0, t.renderActive)) =
      (true, 0#64, 0x2000000000000000#64, false) := by decide
theorem test_reset_t2 :
    (next? (step (arriving midSwath [.reset]))).map (fun t => (t.rip, t.abort, t.buslog)) = some (false, false, []) := by
  decide

/-! ### Witnesses: each obligation's hypotheses are met, each clause at a boundary of its range -/

theorem witness_DecodedWordsAreEncodings : decode 0x1100040500000001#64 = .ok (.pxPoke 4#8 5#8 true) := by decide

theorem witness_RejectedWords_illegal :
    (∀ i, encode i ≠ 0#64) ∧ cwOpc 0#64 ∉ legalOpcodes := by
  refine ⟨fun i h => ?_, by decide⟩
  have : opcodeByte i = 0#8 := by
    have h' := congrArg cwOpc h
    rw [encode, cwOpc_cwOf] at h'
    exact h'
  cases i <;> simp [opcodeByte] at this

theorem witness_RejectedWords_reserved :
    (∀ i, encode i ≠ 0x0101000000000000#64) ∧ cwOpc 0x0101000000000000#64 ∈ legalOpcodes := by
  refine ⟨fun i h => ?_, by decide⟩
  have h' := congrArg cwRsv h
  rw [encode, cwRsv_cwOf] at h'
  exact absurd h' (by decide)

theorem witness_StepRunsTheDecodedCommand :
    (arriving (atReset tc1) [.command 0x4000000000000005#64]).pending = .command 0x4000000000000005#64 :: [] ∧
      decode 0x4000000000000005#64 = .ok (.acqSample 5#16) ∧
      decode (encode (.acqSample 5#16)) = .ok (.acqSample 5#16) := ⟨rfl, by decide, by decide⟩

theorem witness_RenderAgent_active :
    midSwath.pending = [] ∧ (arriving midSwath [.renderTurn]).pending = .renderTurn :: [] ∧
      midSwath.cfg.schedMode = .dualTimer ∧ midSwath.renderActive = true ∧ midSwath.schedState ≠ .idle := by decide

theorem witness_RenderAgent_requested :
    (let s := { atReset tc1 with renderReq := true }
     s.cfg.schedMode = .dualTimer ∧ s.renderActive = false ∧ s.renderReq = true ∧ s.schedEn = true) := by decide

theorem witness_RenderAgent_idle :
    (atReset tc3).cfg.schedMode = .singleTimer ∧
      ((atReset tc1).renderActive = false ∧ (atReset tc1).renderReq = false) ∧
      (let s := { off tc1 with renderReq := true }; s.renderActive = false ∧ s.schedEn = false) := by decide

theorem witness_Peeks :
    ((127#8).toNat < 128 ∧ (63#8).toNat < 64) ∧ 128 ≤ (128#8).toNat ∧ 64 ≤ (64#8).toNat := by decide

/-- A gated writer is gated, by either bit. -/
theorem witness_gated : (atReset tc1).schedEn = true ∧ (running tc1).schedEn = false ∧ (running tc1).renderActive = true := by
  decide

/-- A gated writer is admitted (ClearZeroesTheShadowOnly, SwapExchangesTheRoles). -/
theorem witness_direct : (off tc1).schedEn = false ∧ (off tc1).renderActive = false := by decide

theorem witness_Poke :
    (off tc1).schedEn = false ∧ (off tc1).renderActive = false ∧ (127#8).toNat < 128 ∧ (63#8).toNat < 64 ∧
      128 ≤ (128#8).toNat ∧ 64 ≤ (64#8).toNat := by decide

theorem witness_PokeThenPeek :
    (off tc1).schedEn = false ∧ (off tc1).renderActive = false ∧ (127#8).toNat < 128 ∧ (63#8).toNat < 64 := by decide

theorem witness_Swap_frameDone :
    (let s := { midSwath with
        cfg := { tc1 with clearPolicy := .carry }, schedState := .frameDone, schedCol := 128#8, flushPhase := .diff
        rip := false }
     s.renderActive = true ∧ s.schedState = .frameDone ∧ s.cfg.clearPolicy = .carry) := by decide

theorem witness_DiffSwath :
    (off tc1).schedEn = false ∧ (off tc1).renderActive = false ∧
      ((126#8).toNat ≤ 126 ∧ (126#8).toNat % 2 = 0) ∧ ((0#8).toNat ≤ 126 ∧ (0#8).toNat % 2 = 0) ∧
      126 < (127#8).toNat ∧ 126 < (128#8).toNat ∧ (1#8).toNat % 2 = 1 := by decide

theorem witness_SwathRender :
    (let s := (off tc1).setOps ⟨0#64, 0x20#64, 0#64, 0#64⟩ 126#7
     s.schedEn = false ∧ s.renderActive = false ∧ s.opsLeft.toNat % 2 = 0) := by decide

theorem witness_RenderedSwath :
    (off tc1).schedEn = false ∧ (off tc1).renderActive = false ∧ (126#8).toNat ≤ 126 ∧ (126#8).toNat % 2 = 0 := by decide

theorem witness_SentRows : 126 ≤ 126 ∧ 126 % 2 = 0 ∧ 63 < 64 := by decide

/-- LiveChangesOnlyByCommitOrSwap: an ACQ_SAMPLE that counts and runs no tick. -/
theorem witness_LiveChanges_command :
    exec (.acqSample 0#16) (atReset tc3) = .next { atReset tc3 with cursor := 1#24, tickcnt := 1#16 } ∧
      countsSamples (atReset tc3) = true ∧ (atReset tc3).tickcnt.toNat + 1 ≠ tickSamplesOf (atReset tc3).cfg :=
  ⟨rfl, by decide, by decide⟩

theorem witness_LiveChanges_microStep :
    (midSwath.renderActive = true → midSwath.schedState ≠ .frameDone) ∧
      (let s := { midSwath with rip := false, abort := true }
       s.renderActive = true → s.schedState = .swathFlush → s.flushPhase = .rowWr → s.abort = true) := by decide

theorem witness_RingPush :
    (let s := { off tc1 with cursor := 255#24, ring := [(1, 200#16)] }
     s.schedEn = false ∧ s.renderActive = false ∧ Memory.wf s.ring = true) := by decide

theorem witness_WholeTurns : 0 < capacityOf tc1 ∧ 255 < capacityOf tc1 := by decide

theorem witness_PushHistory :
    [7#16, 0#16] ≠ [] ∧ 1 < capacityOf tc1 ∧ 1 < [7#16, 0#16].length ∧ 255 < capacityOf tc1 := by decide

theorem witness_ZoomOffset :
    128 ≤ (128#8).toNat ∧ (127#8).toNat < 128 ∧
      (zoomLow tcz ≤ s32 4#32 ∧ s32 4#32 ≤ zoomHigh tcz) ∧
      (zoomLow tcs ≤ s32 0xFFFFFFF8#32 ∧ s32 0xFFFFFFF8#32 ≤ zoomHigh tcs) := by decide

theorem witness_OffsetsStay : zoomLow tcs ≤ -8 ∧ -8 ≤ zoomHigh tcs ∧ 127 < 128 := by decide

theorem witness_OffsetsFall :
    (zoomLow tcz ≤ 4 ∧ 4 ≤ zoomHigh tcz ∧ 126 < 127 ∧ 127 < 128 ∧ ¬ (signedZoom tcz = true ∧ 2 ≤ (4 : Int))) ∧
      (zoomLow tcs ≤ 4 ∧ 4 ≤ zoomHigh tcs ∧ signedZoom tcs = true ∧ ((4 : Nat) : Int) / 4 = ((7 : Nat) : Int) / 4) := by
  decide

theorem witness_Span :
    (signedZoom tcz = false ∧ (1 : Int) ≤ 3 ∧ (3 : Int) < 4 ∧ zoomLow tcz ≤ 4 ∧ 4 ≤ zoomHigh tcz) ∧
      (signedZoom tcs = true ∧ (-8 : Int) < -1 ∧ (-1 : Int) ≤ -1) ∧
      (signedZoom tcs = true ∧ (1 : Int) ≤ 12 ∧ (12 : Int) < 13 ∧ (13 : Int) ≤ 13) := by decide

theorem witness_RegRead :
    (0x20#8, (atReset tc1).opsLeft.toNat) ∈ registerMap (atReset tc1) ∧
      0x21#8 ∉ (registerMap (atReset tc1)).map Prod.fst ∧ 0x0A#8 ∉ (registerMap (atReset tc1)).map Prod.fst := by decide

theorem witness_RegWrite :
    1#8 ≠ 0#8 ∧ 1#8 ∈ (registerMap (atReset tc1)).map Prod.fst ∧
      0x30#8 ≠ 0#8 ∧ 0x30#8 ∉ (registerMap (atReset tc1)).map Prod.fst := by decide

theorem witness_Acquisition_dual :
    Memory.wf midSwath.ring = true ∧ midSwath.tickcnt.toNat < tickSamplesOf midSwath.cfg ∧
      midSwath.cfg.schedMode ≠ .singleTimer ∧ midSwath.rip = true ∧ (atReset tc1).rip = false := by decide

theorem witness_Acquisition_single :
    Memory.wf (atReset tc3).ring = true ∧ (atReset tc3).tickcnt.toNat < tickSamplesOf tc3 ∧
      (atReset tc3).cfg.schedMode = .singleTimer ∧ (atReset tc3).schedEn = true ∧
      (atReset tc3).tickcnt.toNat + 1 ≠ tickSamplesOf tc3 := by decide

theorem witness_AcquisitionRunsTheTick :
    (let s := { atReset tc3 with tickcnt := 1#16 }
     Memory.wf s.ring = true ∧ s.cfg.schedMode = .singleTimer ∧ s.schedEn = true ∧
      s.tickcnt.toNat + 1 = tickSamplesOf s.cfg) := by decide

theorem witness_RenderTick : (atReset tc1).cfg.schedMode = .dualTimer ∧ (atReset tc3).cfg.schedMode = .singleTimer := by
  decide

theorem witness_TickAndFrameStart :
    (let s := { atReset tc1 with renderReq := true }
     s.renderActive = false ∧ s.renderReq = true ∧ s.schedEn = true) ∧
      (let s := { atReset tc1 with renderActive := true, schedState := .frameStart, tickLeft := 2#2 }
       s.renderActive = true ∧ s.schedState = .frameStart) := by decide

theorem witness_ColumnFill :
    ((running tc1).renderActive = true ∧ (running tc1).schedState = .columnFill ∧ (running tc1).tickLeft = 0#2) ∧
      (let s := { running tc1 with tickLeft := 1#2, schedCol := 127#8 }
       s.renderActive = true ∧ s.schedState = .columnFill ∧ s.tickLeft ≠ 0#2 ∧ s.schedCol.toNat < 128) := by decide

theorem witness_DiffStep :
    (let s := { midAt .diff with rip := false, schedCol := 128#8 }
     s.renderActive = true ∧ s.schedState = .swathFlush ∧ s.flushPhase = .diff ∧ s.schedCol.toNat % 2 = 0 ∧
      2 ≤ s.schedCol.toNat ∧ s.schedCol.toNat ≤ 128) := by decide

theorem witness_AbortStep :
    (let s := { midSwath with rip := false, abort := true }
     s.renderActive = true ∧ s.schedState = .swathFlush ∧ pastBusCmd s.flushPhase = true ∧ s.abort = true) := by decide

theorem witness_BusSteps :
    (midSwath.renderActive = true ∧ midSwath.schedState = .swathFlush ∧ midSwath.abort = false) ∧
      (midAt .busCmd).flushPhase = .busCmd ∧ (midAt .rowCmd).flushPhase = .rowCmd ∧
      ({ midAt .rowSel with flushRow := 63#7 }).flushRow.toNat < 64 ∧ (midAt .rowDph).flushPhase = .rowDph ∧
      (midAt .busEnd).flushPhase = .busEnd := by decide

theorem witness_RowSteps :
    midSwath.renderActive = true ∧ midSwath.schedState = .swathFlush ∧ midSwath.abort = false ∧
      midSwath.opsLeft.toNat % 2 = 0 ∧ (midAt .busSelCol).flushPhase = .busSelCol ∧ midSwath.flushPhase = .rowWr ∧
      midSwath.flushRow.toNat < 64 := by decide

theorem witness_FrameDone :
    (let s := { midSwath with schedState := .frameDone, schedCol := 128#8, flushPhase := .diff, rip := false }
     s.renderActive = true ∧ s.schedState = .frameDone) := by decide

/-- FaultsOnlyAsTheTableAllows: a command that sets each error bit. -/
theorem witness_Faults :
    after .pxClear (atReset tc1) (fun t => decide (t.errBusy ≠ (atReset tc1).errBusy)) = some true ∧
      after (.pxPeek 128#8 0#8) (atReset tc1) (fun t => decide (t.errRange ≠ (atReset tc1).errRange)) = some true ∧
      after .renderTick (atReset tc3) (fun t => decide (t.errIllegal ≠ (atReset tc3).errIllegal)) = some true := by decide

/-- FaultRecordIsStickyUntilReset: a step that is no reset, from a state with a fault recorded. -/
theorem witness_Sticky :
    (let s := arriving { atReset tc1 with errBusy := true, faultInfo := ⟨4#8, 0x12#8, 0#8⟩ } [.renderTurn]
     step s = .next { s with pending := [] } ∧ (∀ rest, s.pending ≠ .reset :: rest) ∧ s.errBusy = true ∧
      s.faultInfo.code ≠ 0#8) :=
  ⟨rfl, fun _ h => (by cases h), rfl, by decide⟩

theorem witness_ring_midSwath : RingInv midSwath :=
  ⟨by decide, by decide, by decide, by decide⟩

theorem witness_zoom_midSwath : ZoomInv midSwath :=
  ⟨⟨by decide, by decide⟩, ⟨by decide, by decide⟩⟩

theorem witness_sched_midSwath : SchedInv midSwath :=
  ⟨by decide, by decide, by decide, by decide, by decide, by decide, by decide, by decide, by decide, by decide, by decide,
    by decide⟩

theorem witness_flush_midSwath : FlushInv midSwath :=
  ⟨by decide, by decide, by decide, by decide, by decide, by decide, by decide⟩

theorem witness_timer_midSwath : TimerInv midSwath := ⟨by decide, by decide, by decide⟩

theorem witness_fault_midSwath : FaultInv midSwath := ⟨by decide, by decide⟩

theorem midSwath_buslog :
    midSwath.buslog = [0x1000#16, 0x3000#16, 0x1000#16, 0x4F7D#16, 0x2000#16] := rfl

theorem witness_bus_midSwath : BusInv midSwath :=
  ⟨by rw [midSwath_buslog]; simp [busWordLegal], by rw [midSwath_buslog]; decide⟩

theorem witness_frame_midSwath : FrameInv midSwath :=
  ⟨fun c _ h => absurd h (Nat.not_lt_zero c), by decide⟩

/-- The invariants' statements (StepsKeep…) and PreemptedSwathResendsTheRest: a state in the middle of a swath that meets
them all and steps. -/
theorem witness_StepsKeep :
    BlockInv midSwath ∧ FrameInv midSwath ∧ midSwath.renderActive = true ∧ step midSwath = .next midSwath.renderStep ∧
      midSwath.cfg.schedMode = .dualTimer ∧ midSwath.schedState = .swathFlush ∧ midSwath.flushPhase = .rowWr ∧
      midSwath.abort = false :=
  ⟨⟨witness_ring_midSwath, witness_zoom_midSwath, witness_sched_midSwath, witness_flush_midSwath, witness_timer_midSwath,
    witness_fault_midSwath, witness_bus_midSwath⟩, witness_frame_midSwath, rfl, rfl, rfl, rfl, rfl, rfl⟩

/-- BusLogOnlyGrows and ConfigurationNeverChanges: a step that is no reset. -/
theorem witness_BusLog : step midSwath = .next midSwath.renderStep ∧ (∀ rest, midSwath.pending ≠ .reset :: rest) :=
  ⟨rfl, fun _ h => (by cases h)⟩

/-- EveryTickFillsItsColumns, the steps of an interleaved tick: TickStart, a step within, and the step that ends it. -/
theorem witness_EveryTick_steps :
    (let s := { atReset tc1 with renderReq := true }
     s.cfg.schedMode = .dualTimer ∧ (∀ rest, s.pending ≠ .reset :: rest) ∧ step s = .next s.renderStep ∧
      s.renderActive = false ∧ s.renderStep.renderActive = true) ∧
      (step midSwath = .next midSwath.renderStep ∧ midSwath.renderActive = true) ∧
      (step (running tc1) = .next (running tc1).renderStep ∧ (running tc1).renderActive = true ∧
        (running tc1).renderStep.renderActive = false) :=
  ⟨⟨rfl, fun _ h => (by cases h), rfl, rfl, rfl⟩, ⟨rfl, rfl⟩, ⟨rfl, rfl, rfl⟩⟩

/-- EveryTickFillsItsColumns: at reset, and with a frame begun. -/
theorem witness_EveryTick :
    (SchedInv (atReset tc1) ∧ (atReset tc1).renderActive = false) ∧
      (let s := { atReset tc1 with schedState := .columnFill, schedCol := 126#8 }
       SchedInv s ∧ s.renderActive = false) :=
  ⟨⟨⟨by decide, by decide, by decide, by decide, by decide, by decide, by decide, by decide, by decide, by decide,
    by decide, by decide⟩, rfl⟩, ⟨⟨by decide, by decide, by decide, by decide, by decide, by decide, by decide, by decide,
    by decide, by decide, by decide, by decide⟩, rfl⟩⟩

theorem witness_CommandsLeaveTheMicroState :
    exec .renderTick (atReset tc1) = .next { atReset tc1 with renderReq := true } ∧
      countsSamples (atReset tc1) = false ∧ ∀ v, Instr.renderTick ≠ .acqSample v :=
  ⟨rfl, by decide, fun _ h => (by cases h)⟩

theorem witness_ReadsChangeOnlyResult :
    (Instr.pxPeek 127#8 63#8).wellFormed = true ∧ (∃ c r, Instr.pxPeek 127#8 63#8 = .pxPeek c r) ∧
      (Instr.regRead 0x20#8).wellFormed = true ∧ (∃ n, Instr.regRead 0x20#8 = .regRead n) :=
  ⟨by decide, ⟨_, _, rfl⟩, by decide, ⟨_, rfl⟩⟩

/-- SingleTimerNeverAborts: the ACQ_SAMPLE of K11 that runs a whole tick, swath transmission and all. -/
theorem witness_SingleTimer :
    (let s := arriving { atReset tc3 with tickcnt := 1#16 } [.command (encode (.acqSample 40#16))]
     SchedInv s ∧ TimerInv s ∧ FlushInv s ∧ s.cfg.schedMode = .singleTimer ∧ (next? (step s)).isSome = true) :=
  ⟨⟨by decide, by decide, by decide, by decide, by decide, by decide, by decide, by decide, by decide, by decide,
    by decide, by decide⟩, ⟨by decide, by decide, by decide⟩,
    ⟨by decide, by decide, by decide, by decide, by decide, by decide, by decide⟩, rfl, by decide⟩

/-- PreemptedSwathResendsTheRest at the last of its phases, BUS_END; midSwath meets it at ROW_WR. -/
theorem witness_Preempted_busEnd :
    SchedInv midEnd ∧ FlushInv midEnd ∧ FrameInv midEnd ∧ midEnd.cfg.schedMode = .dualTimer ∧
      midEnd.renderActive = true ∧ midEnd.schedState = .swathFlush ∧ pastBusCmd midEnd.flushPhase = true ∧
      midEnd.abort = false :=
  ⟨⟨by decide, by decide, by decide, by decide, by decide, by decide, by decide, by decide, by decide, by decide,
    by decide, by decide⟩, ⟨by decide, by decide, by decide, by decide, by decide, by decide, by decide⟩,
    ⟨fun c _ h => absurd h (Nat.not_lt_zero c), by decide⟩, rfl, rfl, rfl, rfl, rfl⟩

/-- PreemptedSwathResendsTheRest at the first of its phases, BUS_SELCOL. -/
theorem witness_Preempted_busSelCol :
    (let s := { midAt .busSelCol with flushRow := 0#7 }
     SchedInv s ∧ FlushInv s ∧ FrameInv s ∧ s.cfg.schedMode = .dualTimer ∧ s.renderActive = true ∧
      s.schedState = .swathFlush ∧ pastBusCmd s.flushPhase = true ∧ s.abort = false) :=
  ⟨⟨by decide, by decide, by decide, by decide, by decide, by decide, by decide, by decide, by decide, by decide,
    by decide, by decide⟩, ⟨by decide, by decide, by decide, by decide, by decide, by decide, by decide⟩,
    ⟨fun c _ h => absurd h (Nat.not_lt_zero c), by decide⟩, rfl, rfl, rfl, rfl, rfl⟩

theorem sched_midDiff : SchedInv midDiff :=
  ⟨by decide, by decide, by decide, by decide, by decide, by decide, by decide, by decide, by decide, by decide, by decide,
    by decide⟩

theorem flush_midDiff : FlushInv midDiff :=
  ⟨by decide, by decide, by decide, by decide, by decide, by decide, by decide⟩

/-- EndlessStreamsCanStopProgress: an enabled RENDER agent, and a swath that differs before its DiffStep. -/
theorem witness_EndlessStreams :
    midDiff.renderEnabled = true ∧ midDiff.cfg.schedMode = .dualTimer ∧ SchedInv midDiff ∧ FlushInv midDiff ∧
      midDiff.renderActive = true ∧ midDiff.schedState = .swathFlush ∧ midDiff.flushPhase = .diff ∧
      ∃ r < 64, swathDiffers midDiff midDiff.flushLeft r = true :=
  ⟨rfl, rfl, sched_midDiff, flush_midDiff, rfl, rfl, rfl, 61, by decide, by decide⟩

/-- P5's states from its step 10 on. -/
def p5Run : Nat → State
  | 0 => midDiff
  | n + 1 => advance (p5Run n) (p5Events n)

theorem p5Run_answers : ∀ n < 18, (next? (step ((p5Run n).arrive (p5Events n)))).isSome = true := by decide

/-- After P5's last micro-step the RENDER agent has no step left. -/
theorem p5Run_quiet : (p5Run 18).renderEnabled = false := by decide +kernel

theorem advance_quiet {s : State} (h : s.renderEnabled = false) : advance s .renderTurn = s := by
  simp [advance, step, State.arrive, State.withPending, runEvent, renderTurn, h, next?]

theorem answers_quiet {s : State} (h : s.renderEnabled = false) : (next? (step (s.arrive .renderTurn))).isSome = true := by
  simp [step, State.arrive, State.withPending, runEvent, renderTurn, h, next?]

theorem p5Run_rests : ∀ k, p5Run (18 + k) = p5Run 18
  | 0 => rfl
  | k + 1 => by
    have h : p5Events (18 + k) = .renderTurn := if_neg (by omega)
    rw [show p5Run (18 + (k + 1)) = advance (p5Run (18 + k)) (p5Events (18 + k)) from rfl, p5Run_rests k, h]
    exact advance_quiet p5Run_quiet

/-- FairRunsCompleteTheSwath: P5, whose ACQ_SAMPLE forces a release after the first row was written. -/
theorem witness_FairRuns :
    IsFairRun p5Run p5Events ∧ (∀ n, p5Events n ≠ .reset) ∧ (p5Run 0).cfg.schedMode = .dualTimer ∧
      SchedInv (p5Run 0) ∧ FlushInv (p5Run 0) ∧ (p5Run 0).renderActive = true ∧
      (p5Run 0).schedState = .swathFlush ∧ (p5Run 0).flushPhase = .diff ∧
      (∀ n, isAcquisition (p5Events n) = true → (p5Run n).rip = true → rowWritten (p5Run n) = true) ∧
      isAcquisition (p5Events 7) = true ∧ (p5Run 7).rip = true := by
  refine ⟨⟨fun n => ?_, fun n _ => ⟨n + 8, by omega, if_neg (by omega)⟩⟩, fun n => ?_, rfl, sched_midDiff, flush_midDiff,
    rfl, rfl, rfl, fun n ha _ => ?_, by decide, by decide⟩
  · by_cases hn : n < 18
    · exact step_advance (p5Run_answers n hn)
    · obtain ⟨k, rfl⟩ := Nat.exists_eq_add_of_le (Nat.le_of_not_lt hn)
      refine step_advance ?_
      rw [show p5Events (18 + k) = .renderTurn from if_neg (by omega), p5Run_rests]
      exact answers_quiet p5Run_quiet
  · unfold p5Events
    split <;> simp
  · by_cases hn : n = 7
    · subst hn
      decide
    · rw [show p5Events n = .renderTurn from if_neg hn] at ha
      simp [isAcquisition] at ha

/-- LegalParametersBuildTheirBlock: the largest legal SIGNED parameters, and MAX_ZOOM one too large. -/
theorem witness_LegalParameters :
    paramsLegal ⟨true, 13, 255, 255, 65535, 65535, 2, .carry, .on, .singleTimer, .continuous⟩ = true ∧
      paramsLegal ⟨true, 14, 255, 255, 65535, 65535, 2, .carry, .on, .singleTimer, .continuous⟩ = false := by decide

end Sys2Proof.Tests
end

section
/-! PROOF. The parameters of a built block (`00_scope.md` R7 to R10): one lemma per parameter read back from `configOf`,
then the obligation. -/

namespace Sys2Proof.Machine

open Sys2Proof

theorem paramsLegal_iff (p : Params) :
    paramsLegal p = true ↔
      (1 ≤ p.maxZoom ∧ p.maxZoom ≤ 255 ∧ (p.signed = true → p.maxZoom ≤ 13)) ∧ (1 ≤ p.minZoom ∧ p.minZoom ≤ 255) ∧
        (1 ≤ p.divisor ∧ p.divisor ≤ 255) ∧ (1 ≤ p.rowScale ∧ p.rowScale ≤ 65535) ∧
        (1 ≤ p.tickSamples ∧ p.tickSamples ≤ 65535) ∧ (p.colsPerTick = 1 ∨ p.colsPerTick = 2) := by
  have himp : (p.signed = true → p.maxZoom ≤ 13) ↔ (p.signed = false ∨ p.maxZoom ≤ 13) := by
    cases p.signed <;> simp
  simp only [paramsLegal, Bool.and_eq_true, Bool.or_eq_true, Bool.not_eq_true', decide_eq_true_eq, himp, and_assoc]

theorem buildBlock_of_legal {p : Params} (h : paramsLegal p = true) (ev : List PortEvent) :
    buildBlock p ev = .next (State.resetWith (configOf p) ev) := if_pos h

theorem buildBlock_of_illegal {p : Params} (h : ¬ paramsLegal p = true) (ev : List PortEvent) :
    buildBlock p ev = .refused .illegalConfiguration := if_neg h

/-- A parameter stored less one in a `Fin` of exactly its legal range is read back unchanged. -/
theorem val_ofNat_pred_add_one {n k : Nat} [NeZero n] (hlo : 1 ≤ k) (hhi : k ≤ n) :
    (Fin.ofNat n (k - 1)).val + 1 = k := by
  rw [Fin.val_ofNat, Nat.mod_eq_of_lt (by omega)]
  omega

theorem signedZoom_configOf (p : Params) : signedZoom (configOf p) = p.signed := by
  cases h : p.signed <;> simp [signedZoom, configOf, h]

/-- The bound on MAX_ZOOM depends on ZOOM_MODE (`00_scope.md` R7, R10). -/
theorem maxZoomOf_configOf {p : Params} (hlo : 1 ≤ p.maxZoom) (hhi : p.maxZoom ≤ 255)
    (hsigned : p.signed = true → p.maxZoom ≤ 13) : maxZoomOf (configOf p) = p.maxZoom := by
  cases h : p.signed with
  | false => simpa [maxZoomOf, configOf, h] using val_ofNat_pred_add_one hlo hhi
  | true => simpa [maxZoomOf, configOf, h] using val_ofNat_pred_add_one hlo (hsigned h)

theorem minZoomOf_configOf {p : Params} (hlo : 1 ≤ p.minZoom) (hhi : p.minZoom ≤ 255) :
    minZoomOf (configOf p) = p.minZoom := val_ofNat_pred_add_one hlo hhi

theorem divisorOf_configOf {p : Params} (hlo : 1 ≤ p.divisor) (hhi : p.divisor ≤ 255) :
    divisorOf (configOf p) = p.divisor := val_ofNat_pred_add_one hlo hhi

theorem rowScaleOf_configOf {p : Params} (hlo : 1 ≤ p.rowScale) (hhi : p.rowScale ≤ 65535) :
    rowScaleOf (configOf p) = p.rowScale := val_ofNat_pred_add_one hlo hhi

theorem tickSamplesOf_configOf {p : Params} (hlo : 1 ≤ p.tickSamples) (hhi : p.tickSamples ≤ 65535) :
    tickSamplesOf (configOf p) = p.tickSamples := val_ofNat_pred_add_one hlo hhi

theorem colsPerTickOf_configOf {p : Params} (h : p.colsPerTick = 1 ∨ p.colsPerTick = 2) :
    colsPerTickOf (configOf p) = p.colsPerTick := by
  obtain h | h := h <;> simp [colsPerTickOf, configOf, h]

/-- CAPACITY from the parameters its formula reads (`00_scope.md` R9). -/
theorem capacityOf_configOf {p : Params} (hmax : maxZoomOf (configOf p) = p.maxZoom)
    (hmin : minZoomOf (configOf p) = p.minZoom) (hdiv : divisorOf (configOf p) = p.divisor) :
    capacityOf (configOf p) = 128 * p.divisor * (if p.signed then max p.maxZoom p.minZoom else p.maxZoom) := by
  rw [capacityOf, zMaxOf, numCols, hmax, hmin, hdiv, signedZoom_configOf]

/-- Settles O58: the legal ranges are those of `paramsLegal`, and `configOf` keeps each parameter in its range. -/
theorem legalParametersBuildTheirBlock : Obligations.LegalParametersBuildTheirBlock := by
  intro p ev
  split
  case isTrue hlegal =>
    have hbuild := buildBlock_of_legal ((paramsLegal_iff p).mpr hlegal) ev
    obtain ⟨⟨hmaxLo, hmaxHi, hsigned⟩, ⟨hminLo, hminHi⟩, ⟨hdivLo, hdivHi⟩, ⟨hrowLo, hrowHi⟩, ⟨htickLo, htickHi⟩,
      hcols⟩ := hlegal
    have hmax := maxZoomOf_configOf hmaxLo hmaxHi hsigned
    have hmin := minZoomOf_configOf hminLo hminHi
    have hdiv := divisorOf_configOf hdivLo hdivHi
    exact ⟨_, hbuild, hmax, hmin, hdiv, rowScaleOf_configOf hrowLo hrowHi, tickSamplesOf_configOf htickLo htickHi,
      colsPerTickOf_configOf hcols, signedZoom_configOf p, rfl, rfl, rfl, rfl, capacityOf_configOf hmax hmin hdiv⟩
  case isFalse hillegal =>
    exact buildBlock_of_illegal (fun h => hillegal ((paramsLegal_iff p).mp h)) ev

end Sys2Proof.Machine
end

section
/-! PROOF. What a command can do, said once: one inversion lemma for `exec`, up to the new contents of the pixel
buffers. Every statement about all commands is derived from it. -/

namespace Sys2Proof.Machine

open Sys2Proof

/-! ### Commands -/

/-- The command raised a fault: its record and error bit are the only change (`60_exceptions.md` R263). -/
def RaisesFault (i : Instr) (s t : State) : Prop := ∃ k, t = s.raiseFault k (opcodeByte i) (aField i)

/-- The count of samples has reached TICK_SAMPLES: it starts again, and a tick is requested (`44_render_scheduler.md`
R219). -/
def State.tickDue (s : State) : State := { s with tickcnt := 0#16, renderReq := true }

/-- What a command that raises no fault can do to the state, the new contents of the pixel buffers left open. -/
inductive CommandEffect (s : State) : Instr → State → Prop
  /-- The six reads change RESULT only (`20_memory.md` R69). -/
  | read (i : Instr) (v : Word32) : CommandEffect s i (s.setResult v)
  /-- PX_POKE, PX_CLEAR, PX_SWAP and SWATH_RENDER write pixels, exchange roles and emit events. -/
  | plane (i : Instr) (hg : writersGated s = false) (hi : isGatedWriter i = true) (p0 p1 : PixBuf) (sel : Bool)
      (events : List EventWord) (v : Word32) :
      CommandEffect s i { s with p0 := p0, p1 := p1, shadowSel := sel, buslog := s.buslog ++ events, result := v }
  | ringPush (v : Sample) (hg : writersGated s = false) : CommandEffect s (.ringPush v) ((s.ringPush v).setResult 0#32)
  | diffSwath (l : Byte) (hg : writersGated s = false) (hl : leftColInRange l = true) :
      CommandEffect s (.diffSwath l) ((s.setOps (s.diffSwath l.toNat) (BitVec.ofNat 7 l.toNat)).setResult 0#32)
  | zoomSet (f : Word32) :
      CommandEffect s (.zoomSet f)
        ({ s with zoom := u32OfInt (clampZoom s.cfg (s32 f)) }.setResult (u32OfInt (clampZoom s.cfg (s32 f))))
  /-- ACQ_SAMPLE where samples are not counted (`44_render_scheduler.md` R219). -/
  | acquire (v : Sample) (hc : countsSamples s = false) : CommandEffect s (.acqSample v) ((s.acquire v).setResult 0#32)
  /-- ACQ_SAMPLE that counts its sample and does not reach TICK_SAMPLES. -/
  | count (v : Sample) (hc : countsSamples s = true) (hn : s.tickcnt.toNat + 1 ≠ tickSamplesOf s.cfg) :
      CommandEffect s (.acqSample v) ({ s.acquire v with tickcnt := s.tickcnt + 1#16 }.setResult 0#32)
  /-- ACQ_SAMPLE that reaches TICK_SAMPLES and runs a whole tick. -/
  | tick (v : Sample) (hc : countsSamples s = true) (hn : s.tickcnt.toNat + 1 = tickSamplesOf s.cfg) :
      CommandEffect s (.acqSample v) ((s.acquire v).tickDue.runTickAtomic.setResult 0#32)
  | renderTick (hd : s.cfg.schedMode = .dualTimer) :
      CommandEffect s .renderTick ({ s with renderReq := s.renderReq || s.schedEn }.setResult 0#32)
  | writeCtrl (v : Word32) : CommandEffect s (.regWrite 0x00#8 v) ((s.writeCtrl v).setResult 0#32)

/-- The acquisition of a sample: the push, and END with RIP handed to ABORT where a transaction stood open
(`44_render_scheduler.md` R219). -/
theorem State.acquire_eq (s : State) (v : Sample) :
    s.acquire v =
      { s.ringPush v with
        buslog := s.buslog ++ (if s.rip then [busWord .endTransaction] else [])
        rip := false
        abort := s.abort || s.rip } := by
  rw [State.acquire, State.forcedRelease_eq]
  rfl

theorem raisesFault_of_faultOf {i : Instr} {k : FaultCode} {s t : State} (h : faultOf i k s = .next t) :
    RaisesFault i s t := by
  cases h
  exact ⟨k, rfl⟩

/-- A check before an effect: the effect with the check passed, or the fault. -/
theorem checked_next {c : Prop} [Decidable c] {i : Instr} {k : FaultCode} {s t u : State}
    (h : (if c then .next u else faultOf i k s) = .next t) : (c ∧ t = u) ∨ RaisesFault i s t := by
  split at h
  case isTrue hc =>
    cases h
    exact .inl ⟨hc, rfl⟩
  case isFalse => exact .inr (raisesFault_of_faultOf h)

/-- A gated writer raises BUSY, or is not gated and has its effect. -/
theorem gatedWriter_effect {i : Instr} {s t : State} {e : Host.Outcome State Fault Refusal}
    (h : gatedWriter i s e = .next t) : (writersGated s = false ∧ e = .next t) ∨ RaisesFault i s t := by
  obtain ⟨-, rfl⟩ | hopen := gatedWriter_next h
  · exact .inr ⟨.busy, rfl⟩
  · exact .inl hopen

theorem execAcqSample_effect {v : Sample} {s t : State} (h : execAcqSample v s = .next t) :
    CommandEffect s (.acqSample v) t := by
  have hcnt : (s.acquire v).tickcnt = s.tickcnt := by rw [State.acquire_eq]; rfl
  have hcfg : (s.acquire v).cfg = s.cfg := by rw [State.acquire_eq]; rfl
  cases h
  split
  case isFalse hc => exact .acquire v (by simpa using hc)
  case isTrue hc =>
    unfold State.countSample
    rw [hcnt]
    split
    case isTrue hn => exact .tick v hc (hcfg ▸ hn)
    case isFalse hn => exact .count v hc (hcfg ▸ hn)

/-- A direct writer of the pixel plane that emits no event. -/
theorem CommandEffect.pixels {s : State} (i : Instr) (hg : writersGated s = false) (hi : isGatedWriter i = true)
    (p0 p1 : PixBuf) (sel : Bool) (v : Word32) :
    CommandEffect s i { s with p0 := p0, p1 := p1, shadowSel := sel, result := v } := by
  simpa using CommandEffect.plane i hg hi p0 p1 sel [] v

/-- SWATH_RENDER writes pixels and adds its events (`41_diff_engine.md` R139). -/
theorem execSwathRender_effect {s t : State} (h : execSwathRender s = .next t) :
    CommandEffect s .swathRender t ∨ RaisesFault .swathRender s t := by
  obtain ⟨hg, he⟩ | hf := gatedWriter_effect h
  · cases he
    rw [State.performItems_frame]
    exact .inl (.plane _ hg rfl ..)
  · exact .inr hf

/-- A command that answers a next state had its effect or raised a fault. -/
theorem exec_next_cases {i : Instr} {s t : State} (h : exec i s = .next t) :
    CommandEffect s i t ∨ RaisesFault i s t := by
  cases i with
  | ringPush v => exact (gatedWriter_effect h).imp_left fun ⟨hg, he⟩ => by cases he; exact .ringPush v hg
  | ringAt o => cases h; exact .inl (.read ..)
  | pxPeek c r => exact (checked_next h).imp_left fun ⟨_, ht⟩ => ht ▸ .read ..
  | pxPoke c r v =>
    obtain ⟨hg, he⟩ | hf := gatedWriter_effect h
    · exact (checked_next he).imp_left fun ⟨_, ht⟩ => ht ▸ .pixels (.pxPoke c r v) hg rfl ..
    · exact .inr hf
  | pxClear => exact (gatedWriter_effect h).imp_left fun ⟨hg, he⟩ => by cases he; exact .pixels _ hg rfl ..
  | pxSwap => exact (gatedWriter_effect h).imp_left fun ⟨hg, he⟩ => by cases he; exact .pixels _ hg rfl ..
  | pxPeekLive c r => exact (checked_next h).imp_left fun ⟨_, ht⟩ => ht ▸ .read ..
  | diffSwath l =>
    obtain ⟨hg, he⟩ | hf := gatedWriter_effect h
    · exact (checked_next he).imp_left fun ⟨hl, ht⟩ => ht ▸ .diffSwath l hg hl
    · exact .inr hf
  | opsIsBlank => cases h; exact .inl (.read ..)
  | swathRender => exact execSwathRender_effect h
  | zoomSet f => cases h; exact .inl (.zoomSet f)
  | zoomOffset c => exact (checked_next h).imp_left fun ⟨_, ht⟩ => ht ▸ .read ..
  | acqSample v => exact .inl (execAcqSample_effect h)
  | renderTick =>
    simp only [exec, execRenderTick] at h
    split at h
    case h_1 => exact .inr (raisesFault_of_faultOf h)
    case h_2 hd => cases h; exact .inl (.renderTick hd)
  | regRead n =>
    simp only [exec, execRegRead] at h
    split at h
    case h_1 => cases h; exact .inl (.read ..)
    case h_2 => exact .inr (raisesFault_of_faultOf h)
  | regWrite n v =>
    simp only [exec, execRegWrite] at h
    split at h
    case h_1 => exact .inr (raisesFault_of_faultOf h)
    case h_2 =>
      obtain ⟨rfl, rfl⟩ | hf := checked_next h
      · exact .inl (.writeCtrl v)
      · exact .inr hf

end Sys2Proof.Machine
end

section
/-! PROOF. The inductions over a tick and over a step: what every part of a step keeps, the step keeps. -/

namespace Sys2Proof.Machine

open Sys2Proof

/-- What RenderStep keeps while RENDER_ACTIVE = 1, the loop of R220 keeps. -/
theorem State.runWhileActive_keeps {P : State → Prop}
    (render : ∀ u : State, u.renderActive = true → P u → P u.renderStep) :
    ∀ (fuel : Nat) (s : State), P s → P (State.runWhileActive fuel s)
  | 0, _, hs => hs
  | fuel + 1, s, hs => by
    unfold State.runWhileActive
    split
    case isTrue ha => exact State.runWhileActive_keeps render fuel _ (render s ha hs)
    case isFalse => exact hs

/-- What TickStart and RenderStep keep, a whole tick keeps (`44_render_scheduler.md` R220). -/
theorem State.runTickAtomic_keeps {P : State → Prop} (start : ∀ u : State, P u → P u.tickStart)
    (render : ∀ u : State, u.renderActive = true → P u → P u.renderStep) {s : State} (hs : P s) :
    P s.runTickAtomic :=
  State.runWhileActive_keeps render tickFuel _ (start s hs)

/-- The RENDER agent moves in the dual-timer configuration only (`44_render_scheduler.md` R218). -/
theorem State.dualTimer_of_renderEnabled {s : State} (h : s.renderEnabled = true) : s.cfg.schedMode = .dualTimer := by
  simp only [State.renderEnabled, Bool.and_eq_true, decide_eq_true_eq] at h
  exact h.1

/-- A property that the taking of an event, every fault, every command's effect and every turn of the RENDER agent keep,
and that a reset would give, holds after a step from a state that has it. -/
theorem step_keeps {P : State → Prop} {s t : State} (pending : ∀ u p, P u → P (u.withPending p))
    (fault : ∀ u k opc a, P u → P (u.raiseFault k opc a)) (command : ∀ u i v, P u → CommandEffect u i v → P v)
    (render : ∀ u, u.renderEnabled = true → P u → P u.renderStep)
    (reset : ∀ rest, s.pending = .reset :: rest → P (State.resetWith s.cfg rest)) (hs : P s) (h : step s = .next t) :
    P t := by
  have turn : ∀ u, P u → renderTurn u = .next t → P t := by
    intro u hu ht
    obtain ⟨-, he⟩ | ⟨hen, -, he⟩ | ⟨-, -, he⟩ := renderTurn_cases u
    · cases he.symm.trans ht
      exact hu
    · cases he.symm.trans ht
      exact render u hen hu
    · cases he.symm.trans ht
  obtain ⟨-, ht⟩ | ⟨rest, -, ht⟩ | ⟨rest, hp, rfl⟩ | ⟨cw, rest, e, -, -, rfl⟩ | ⟨cw, rest, i, -, -, he⟩ :=
    step_next_cases h
  · exact turn s hs ht
  · exact turn _ (pending s rest hs) ht
  · exact reset rest hp
  · exact fault _ _ _ _ (pending s rest hs)
  · obtain he | ⟨k, rfl⟩ := exec_next_cases he
    · exact command _ i t (pending s rest hs) he
    · exact fault _ _ _ _ (pending s rest hs)

/-! ### What render steps and commands leave alone -/

/-- The error bits and the fault record (`10_state.md` R27, R28). -/
structure FaultRegs where
  errIllegal : Bool
  errRange : Bool
  errBusy : Bool
  faultInfo : FaultInfo

/-- The fault registers of a state. -/
def State.faultRegs (s : State) : FaultRegs where
  errIllegal := s.errIllegal
  errRange := s.errRange
  errBusy := s.errBusy
  faultInfo := s.faultInfo

/-- The state that no render step writes: the ring, the fault registers, CTRL, ZOOM, TICKCNT, RESULT and the model's own
fields. -/
structure HostRegs where
  cfg : Config
  ring : Memory
  cursor : RingIndex
  faults : FaultRegs
  schedEn : Bool
  zoom : Word32
  tickcnt : BitVec 16
  result : Word32
  pending : List PortEvent

/-- The host registers of a state. -/
def State.hostRegs (s : State) : HostRegs where
  cfg := s.cfg
  ring := s.ring
  cursor := s.cursor
  faults := s.faultRegs
  schedEn := s.schedEn
  zoom := s.zoom
  tickcnt := s.tickcnt
  result := s.result
  pending := s.pending

/-- The render micro-state with FZOOM and BASE, which render steps alone write (`10_state.md` R43). -/
structure RenderRegs where
  schedState : SchedState
  schedCol : BitVec 8
  tickLeft : BitVec 2
  flushPhase : FlushPhase
  flushRow : BitVec 7
  renderActive : Bool
  base : RingIndex
  fzoom : Word32

/-- The render micro-state of a state. -/
def State.renderRegs (s : State) : RenderRegs where
  schedState := s.schedState
  schedCol := s.schedCol
  tickLeft := s.tickLeft
  flushPhase := s.flushPhase
  flushRow := s.flushRow
  renderActive := s.renderActive
  base := s.base
  fzoom := s.fzoom

theorem State.columnFillStep_hostRegs (s : State) : s.columnFillStep.hostRegs = s.hostRegs := by
  unfold State.columnFillStep
  split <;> rfl

theorem State.diffStep_hostRegs (s : State) : s.diffStep.hostRegs = s.hostRegs := by
  unfold State.diffStep
  dsimp only
  split <;> rfl

theorem State.frameDoneStep_hostRegs (s : State) : s.frameDoneStep.hostRegs = s.hostRegs := by
  rw [State.frameDoneStep, State.clearPerPolicy_frame]
  rfl

theorem State.flushStep_hostRegs (s : State) : s.flushStep.hostRegs = s.hostRegs := by
  obtain ⟨-, h⟩ | ⟨-, h⟩ | ⟨-, -, -, h⟩ | ⟨-, -, h⟩ | ⟨-, -, h⟩ | ⟨-, -, h⟩ | ⟨-, -, h⟩ | ⟨-, -, h⟩ | ⟨-, -, h⟩ :=
    s.flushStep_cases <;> rw [h]
  case inl => exact s.diffStep_hostRegs
  all_goals rfl

/-- RenderStep writes no host register. -/
theorem State.renderStep_hostRegs (s : State) : s.renderStep.hostRegs = s.hostRegs := by
  obtain ⟨-, h⟩ | ⟨-, -, h⟩ | ⟨-, -, h⟩ | ⟨-, -, h⟩ | ⟨-, -, h⟩ | ⟨-, -, h⟩ := s.renderStep_cases <;> rw [h]
  · rfl
  · rfl
  · exact s.columnFillStep_hostRegs
  · exact s.flushStep_hostRegs
  · exact s.frameDoneStep_hostRegs

theorem State.runTickAtomic_hostRegs (s : State) : s.runTickAtomic.hostRegs = s.hostRegs :=
  State.runTickAtomic_keeps (P := fun u => u.hostRegs = s.hostRegs) (fun _ h => h)
    (fun u _ h => u.renderStep_hostRegs.trans h) rfl

theorem State.acquire_hostRegs (s : State) (v : Sample) :
    (s.acquire v).hostRegs =
      { s.hostRegs with ring := (s.ringPush v).ring, cursor := (s.ringPush v).cursor } := by
  rw [State.acquire_eq]
  rfl

theorem State.acquire_renderRegs (s : State) (v : Sample) : (s.acquire v).renderRegs = s.renderRegs := by
  rw [State.acquire_eq]
  rfl

/-- No command's effect writes the configuration or, unless it raises a fault, a fault register, nor what is still to
arrive. -/
theorem CommandEffect.keeps_cfg_faults_pending {s t : State} {i : Instr} (h : CommandEffect s i t) :
    t.cfg = s.cfg ∧ t.faultRegs = s.faultRegs ∧ t.pending = s.pending := by
  cases h with
  | acquire v | count v =>
    rw [State.acquire_eq]
    exact ⟨rfl, rfl, rfl⟩
  | tick v =>
    have htick := (s.acquire v).tickDue.runTickAtomic_hostRegs
    rw [State.acquire_eq] at htick ⊢
    exact ⟨congrArg HostRegs.cfg htick, congrArg HostRegs.faults htick, congrArg HostRegs.pending htick⟩
  | _ => exact ⟨rfl, rfl, rfl⟩

/-- No command but the ACQ_SAMPLE that runs a tick writes the render micro-state (`10_state.md` R43). -/
theorem CommandEffect.renderRegs_eq {s t : State} {i : Instr} (h : CommandEffect s i t)
    (hquiet : countsSamples s = true → s.tickcnt.toNat + 1 = tickSamplesOf s.cfg → ∀ v, i ≠ .acqSample v) :
    t.renderRegs = s.renderRegs := by
  cases h with
  | acquire v | count v => exact s.acquire_renderRegs v
  | tick v hc hn => exact absurd rfl (hquiet hc hn v)
  | _ => rfl

/-- No command but ACQ_SAMPLE writes RIP or ABORT (`10_state.md` R41). -/
theorem CommandEffect.busFlags_eq {s t : State} {i : Instr} (h : CommandEffect s i t) (hi : ∀ v, i ≠ .acqSample v) :
    t.rip = s.rip ∧ t.abort = s.abort := by
  cases h with
  | acquire v | count v | tick v => exact absurd rfl (hi v)
  | _ => exact ⟨rfl, rfl⟩

end Sys2Proof.Machine
end

section
/-! PROOF. Reset, the configuration, the fault record, BUSLOG, and what commands leave alone. -/

namespace Sys2Proof.Machine

open Sys2Proof

/-! ### Reset and the configuration -/

theorem resetValues_resetWith (c : Config) (p : List PortEvent) : ResetValues (State.resetWith c p) where
  pixels b i := by cases b <;> exact PixBuf.read_blank i
  shadowSel := rfl
  ops := ⟨rfl, rfl⟩
  ring _ := rfl
  cursor := rfl
  errors := ⟨rfl, rfl, rfl⟩
  faultInfo := rfl
  ctrl := rfl
  zoom := ⟨rfl, rfl⟩
  base := rfl
  sched := ⟨rfl, rfl, rfl, rfl⟩
  flush := ⟨rfl, rfl⟩
  render := ⟨rfl, rfl⟩
  bus := ⟨rfl, rfl, rfl⟩
  result := rfl

/-- Settles O7: the values of `State.resetWith`, read one by one. -/
theorem resetRestoresEveryValue : Obligations.ResetRestoresEveryValue :=
  ⟨fun s => ⟨s.applyReset, rfl, resetValues_resetWith s.cfg s.pending, rfl⟩, resetValues_resetWith Config.atReset []⟩

/-- Settles O54, by the induction over a step. -/
theorem configurationNeverChanges : Obligations.ConfigurationNeverChanges := by
  intro s t h
  refine step_keeps (P := fun u => u.cfg = s.cfg) ?pending ?fault ?command ?render ?reset rfl h
  case pending => exact fun _ _ hu => hu
  case fault => exact fun _ _ _ _ hu => hu
  case command =>
    intro u i v hu he
    obtain ⟨hcfg, -, -⟩ := he.keeps_cfg_faults_pending
    exact hcfg.trans hu
  case render => exact fun u _ hu => (congrArg HostRegs.cfg u.renderStep_hostRegs).trans hu
  case reset => exact fun _ _ => rfl

/-! ### The fault record -/

/-- No error bit of `s` is cleared in `t`, and a fault recorded in `s` is recorded still (`60_exceptions.md` R263). -/
structure FaultsStick (s t : State) : Prop where
  illegal : s.errIllegal = true → t.errIllegal = true
  range : s.errRange = true → t.errRange = true
  busy : s.errBusy = true → t.errBusy = true
  record : s.faultInfo.code ≠ 0#8 → t.faultInfo = s.faultInfo

theorem State.faultRegs_eq_iff {s t : State} :
    t.faultRegs = s.faultRegs ↔
      t.errIllegal = s.errIllegal ∧ t.errRange = s.errRange ∧ t.errBusy = s.errBusy ∧ t.faultInfo = s.faultInfo := by
  simp [State.faultRegs]

theorem FaultsStick.of_faultRegs {s t u : State} (h : FaultsStick s t) (he : u.faultRegs = t.faultRegs) :
    FaultsStick s u := by
  obtain ⟨hi, hr, hb, hf⟩ := State.faultRegs_eq_iff.1 he
  exact ⟨hi ▸ h.illegal, hr ▸ h.range, hb ▸ h.busy, hf ▸ h.record⟩

/-- A further fault adds its error bit and leaves the first record. -/
theorem FaultsStick.raiseFault {s t : State} (h : FaultsStick s t) (k : FaultCode) (opc a : Byte) :
    FaultsStick s (t.raiseFault k opc a) where
  illegal hs := by simp [h.illegal hs]
  range hs := by simp [h.range hs]
  busy hs := by simp [h.busy hs]
  record hs := by simp [h.record hs, hs]

/-- Settles O42, by the induction over a step: only a fault writes the fault registers, and it adds to them. -/
theorem faultRecordIsStickyUntilReset : Obligations.FaultRecordIsStickyUntilReset := by
  intro s t h hreset
  have hstick : FaultsStick s t := by
    refine step_keeps (P := FaultsStick s) ?pending ?fault ?command ?render ?reset ⟨id, id, id, fun _ => rfl⟩ h
    case pending => exact fun _ _ hu => hu.of_faultRegs rfl
    case fault => exact fun _ k opc a hu => hu.raiseFault k opc a
    case command =>
      intro u i v hu he
      obtain ⟨-, hfaults, -⟩ := he.keeps_cfg_faults_pending
      exact hu.of_faultRegs hfaults
    case render => exact fun u _ hu => hu.of_faultRegs (congrArg HostRegs.faults u.renderStep_hostRegs)
    case reset => exact fun rest hp => absurd hp (hreset rest)
  exact ⟨hstick.illegal, hstick.range, hstick.busy, hstick.record⟩

theorem FaultInv.of_faultRegs {s t : State} (h : FaultInv s) (he : t.faultRegs = s.faultRegs) : FaultInv t := by
  obtain ⟨hi, hr, hb, hf⟩ := State.faultRegs_eq_iff.1 he
  obtain ⟨hnone, hrec⟩ := h
  constructor
  · rw [hi, hr, hb, hf]
    exact hnone
  · rw [recordedBit, hi, hr, hb, hf]
    exact hrec

theorem FaultInv.resetWith (c : Config) (p : List PortEvent) : FaultInv (State.resetWith c p) :=
  ⟨fun _ => ⟨rfl, rfl, rfl, rfl⟩, fun h => absurd rfl h⟩

/-- The bit of the fault that was recorded is set by the fault itself (`60_exceptions.md` R260). -/
theorem recordedBit_raiseFault_first (s : State) (k : FaultCode) (opc a : Byte) (h : s.faultInfo.code = 0#8) :
    recordedBit (s.raiseFault k opc a) = true := by
  cases k <;> simp [recordedBit, h, faultNumber, setsErrIllegal, setsErrRange, setsErrBusy]

/-- A later fault clears no bit, the recorded fault's among them. -/
theorem recordedBit_raiseFault_later (s : State) (k : FaultCode) (opc a : Byte) (h : s.faultInfo.code ≠ 0#8)
    (hbit : recordedBit s = true) : recordedBit (s.raiseFault k opc a) = true := by
  unfold recordedBit at hbit ⊢
  simp only [State.raiseFault_faultInfo, if_neg h, State.raiseFault_errIllegal, State.raiseFault_errRange,
    State.raiseFault_errBusy]
  split at hbit <;> simp_all

theorem FaultInv.raiseFault {s : State} (h : FaultInv s) (k : FaultCode) (opc a : Byte) :
    FaultInv (s.raiseFault k opc a) := by
  by_cases hc : s.faultInfo.code = 0#8
  · exact ⟨fun h0 => absurd h0 (by simp [hc, faultNumber_ne_zero]),
      fun _ => recordedBit_raiseFault_first s k opc a hc⟩
  · exact ⟨fun h0 => absurd h0 (by simp [hc]),
      fun _ => recordedBit_raiseFault_later s k opc a hc (h.recorded hc)⟩

/-- Settles O45, by the induction over a step: only a fault writes the fault registers, and it keeps them in
agreement. -/
theorem stepsKeepTheFaultRecordSound : Obligations.StepsKeepTheFaultRecordSound := by
  intro s t hinv h
  refine step_keeps (P := FaultInv) ?pending ?fault ?command ?render ?reset hinv h
  case pending => exact fun _ _ hu => hu.of_faultRegs rfl
  case fault => exact fun _ k opc a hu => hu.raiseFault k opc a
  case command =>
    intro u i v hu he
    obtain ⟨-, hfaults, -⟩ := he.keeps_cfg_faults_pending
    exact hu.of_faultRegs hfaults
  case render => exact fun u _ hu => hu.of_faultRegs (congrArg HostRegs.faults u.renderStep_hostRegs)
  case reset => exact fun rest _ => .resetWith s.cfg rest

/-! ### BUSLOG -/

theorem State.columnFillStep_buslog (s : State) : s.columnFillStep.buslog = s.buslog := by
  unfold State.columnFillStep
  split <;> rfl

theorem State.diffStep_buslog (s : State) : s.diffStep.buslog = s.buslog := by
  unfold State.diffStep
  dsimp only
  split <;> rfl

theorem State.flushStep_buslog_prefix (s : State) : s.buslog <+: s.flushStep.buslog := by
  obtain ⟨-, h⟩ | ⟨-, h⟩ | ⟨-, -, -, h⟩ | ⟨-, -, h⟩ | ⟨-, -, h⟩ | ⟨-, -, h⟩ | ⟨-, -, h⟩ | ⟨-, -, h⟩ | ⟨-, -, h⟩ :=
    s.flushStep_cases <;> rw [h]
  case inl => rw [s.diffStep_buslog]
  case inr.inr.inl => exact List.prefix_rfl
  all_goals exact List.prefix_append ..

/-- RenderStep only adds events at the end of BUSLOG (`10_state.md` R42). -/
theorem State.renderStep_buslog_prefix (s : State) : s.buslog <+: s.renderStep.buslog := by
  obtain ⟨-, h⟩ | ⟨-, -, h⟩ | ⟨-, -, h⟩ | ⟨-, -, h⟩ | ⟨-, -, h⟩ | ⟨-, -, h⟩ := s.renderStep_cases <;> rw [h]
  · exact List.prefix_rfl
  · exact List.prefix_rfl
  · rw [s.columnFillStep_buslog]
  · exact s.flushStep_buslog_prefix
  · rw [State.frameDoneStep, State.clearPerPolicy_frame]
    exact List.prefix_rfl

theorem State.runTickAtomic_buslog_prefix (s : State) : s.buslog <+: s.runTickAtomic.buslog :=
  State.runTickAtomic_keeps (P := fun u => s.buslog <+: u.buslog) (fun _ h => h)
    (fun u _ h => h.trans u.renderStep_buslog_prefix) List.prefix_rfl

theorem State.acquire_buslog_prefix (s : State) (v : Sample) : s.buslog <+: (s.acquire v).buslog := by
  rw [State.acquire_eq]
  exact List.prefix_append ..

theorem CommandEffect.buslog_prefix {s t : State} {i : Instr} (h : CommandEffect s i t) : s.buslog <+: t.buslog := by
  cases h with
  | plane => exact List.prefix_append ..
  | acquire v | count v => exact s.acquire_buslog_prefix v
  | tick v => exact (s.acquire_buslog_prefix v).trans (s.acquire v).tickDue.runTickAtomic_buslog_prefix
  | _ => exact List.prefix_rfl

/-- Settles O53, by the induction over a step. -/
theorem busLogOnlyGrows : Obligations.BusLogOnlyGrows := by
  intro s t h hreset
  have hgrows : s.buslog <+: t.buslog := by
    refine step_keeps (P := fun u => s.buslog <+: u.buslog) ?pending ?fault ?command ?render ?reset List.prefix_rfl h
    case pending => exact fun _ _ hu => hu
    case fault => exact fun _ _ _ _ hu => hu
    case command => exact fun _ _ _ hu he => hu.trans he.buslog_prefix
    case render => exact fun u _ hu => hu.trans u.renderStep_buslog_prefix
    case reset => exact fun rest hp => absurd hp (hreset rest)
  obtain ⟨more, hmore⟩ := hgrows
  exact ⟨more, hmore.symm⟩

/-! ### Commands and the render micro-state -/

theorem State.renderRegs_eq_iff {s t : State} :
    t.renderRegs = s.renderRegs ↔
      t.schedState = s.schedState ∧ t.schedCol = s.schedCol ∧ t.tickLeft = s.tickLeft ∧ t.flushPhase = s.flushPhase ∧
        t.flushRow = s.flushRow ∧ t.renderActive = s.renderActive ∧ t.base = s.base ∧ t.fzoom = s.fzoom := by
  simp [State.renderRegs]

/-- Settles O55, from what a command's effect leaves alone; a fault leaves all of it alone. -/
theorem commandsLeaveTheMicroStateAlone : Obligations.CommandsLeaveTheMicroStateAlone := by
  intro i s t h
  obtain he | ⟨k, rfl⟩ := exec_next_cases h
  · obtain ⟨-, -, hpending⟩ := he.keeps_cfg_faults_pending
    exact ⟨fun hquiet => State.renderRegs_eq_iff.1 (he.renderRegs_eq hquiet), he.busFlags_eq, hpending⟩
  · exact ⟨fun _ => State.renderRegs_eq_iff.1 rfl, fun _ => ⟨rfl, rfl⟩, rfl⟩

end Sys2Proof.Machine
end

section
/-! PROOF. The ranges of the ring, its index registers and the zoom registers are kept by every step. -/

namespace Sys2Proof.Machine

open Sys2Proof

/-! ### What a frame latches -/

/-- The swath flush leaves the column, the budget, RENDER_ACTIVE, RENDER_REQ and the frame's latched registers alone
(`44_render_scheduler.md` R207 to R216). -/
theorem State.flushStep_frame (s : State) :
    s.flushStep.schedCol = s.schedCol ∧ s.flushStep.tickLeft = s.tickLeft ∧
      s.flushStep.renderActive = s.renderActive ∧ s.flushStep.renderReq = s.renderReq ∧
      s.flushStep.base = s.base ∧ s.flushStep.fzoom = s.fzoom := by
  obtain ⟨-, h⟩ | ⟨-, h⟩ | ⟨-, -, -, h⟩ | ⟨-, -, h⟩ | ⟨-, -, h⟩ | ⟨-, -, h⟩ | ⟨-, -, h⟩ | ⟨-, -, h⟩ | ⟨-, -, h⟩ :=
    s.flushStep_cases <;> rw [h]
  case inl =>
    unfold State.diffStep
    dsimp only
    split <;> exact ⟨rfl, rfl, rfl, rfl, rfl, rfl⟩
  all_goals exact ⟨rfl, rfl, rfl, rfl, rfl, rfl⟩

/-- What a render step does to BASE and FZOOM: nothing, or FRAME_START latches CURSOR and ZOOM
(`44_render_scheduler.md` R205). -/
theorem State.renderStep_latch (s : State) :
    (s.renderStep.base = s.base ∧ s.renderStep.fzoom = s.fzoom) ∨
      (s.renderStep.base = s.cursor ∧ s.renderStep.fzoom = s.zoom) := by
  obtain ⟨-, h⟩ | ⟨-, -, h⟩ | ⟨-, -, h⟩ | ⟨-, -, h⟩ | ⟨-, -, h⟩ | ⟨-, -, h⟩ := s.renderStep_cases <;> rw [h]
  · exact .inl ⟨rfl, rfl⟩
  · exact .inl ⟨rfl, rfl⟩
  · exact .inr ⟨rfl, rfl⟩
  · left
    unfold State.columnFillStep
    split <;> exact ⟨rfl, rfl⟩
  · obtain ⟨-, -, -, -, hbase, hfzoom⟩ := s.flushStep_frame
    exact .inl ⟨hbase, hfzoom⟩
  · rw [State.frameDoneStep, State.clearPerPolicy_frame]
    exact .inl ⟨rfl, rfl⟩

/-! ### The ring -/

/-- The ring's invariant reads the ring, CURSOR and BASE only, and BASE may be latched from CURSOR. -/
theorem RingInv.of_latch {s t : State} (h : RingInv s) (hcfg : t.cfg = s.cfg) (hring : t.ring = s.ring)
    (hcursor : t.cursor = s.cursor) (hbase : t.base = s.base ∨ t.base = s.cursor) : RingInv t where
  ringWf := hring ▸ h.ringWf
  ringBelow := by rw [hring, hcfg]; exact h.ringBelow
  cursorBelow := by rw [hcursor, hcfg]; exact h.cursorBelow
  baseBelow := by
    obtain hb | hb := hbase <;> rw [hb, hcfg]
    · exact h.baseBelow
    · exact h.cursorBelow

theorem RingInv.ringPush {s : State} (h : RingInv s) (v : Sample) : RingInv (s.ringPush v) := by
  have hcap := (capacityOf_bounds s.cfg).1
  have hnext : (s.cursor.toNat + 1) % capacityOf s.cfg < capacityOf s.cfg := Nat.mod_lt _ (by omega)
  exact {
    ringWf := Memory.wf_write h.ringWf _ v
    ringBelow := fun cell hcell => by
      obtain hi | hold := Memory.mem_write hcell
      · exact hi ▸ hnext
      · exact h.ringBelow cell hold
    cursorBelow := (s.ringPush_cursor_toNat v).symm ▸ hnext
    baseBelow := h.baseBelow }

theorem RingInv.setResult {s : State} (h : RingInv s) (v : Word32) : RingInv (s.setResult v) :=
  h.of_latch rfl rfl rfl (.inl rfl)

theorem RingInv.acquire {s : State} (h : RingInv s) (v : Sample) : RingInv (s.acquire v) := by
  rw [State.acquire_eq]
  exact (h.ringPush v).of_latch rfl rfl rfl (.inl rfl)

theorem RingInv.renderStep {s : State} (h : RingInv s) : RingInv s.renderStep :=
  have hhost := s.renderStep_hostRegs
  h.of_latch (congrArg HostRegs.cfg hhost) (congrArg HostRegs.ring hhost) (congrArg HostRegs.cursor hhost)
    (s.renderStep_latch.imp And.left And.left)

theorem RingInv.runTickAtomic {s : State} (h : RingInv s) : RingInv s.runTickAtomic :=
  State.runTickAtomic_keeps (fun _ hu => hu.of_latch rfl rfl rfl (.inl rfl)) (fun _ _ hu => hu.renderStep) h

theorem RingInv.resetWith (c : Config) (p : List PortEvent) : RingInv (State.resetWith c p) := by
  have hpos : 0 < capacityOf c := by have := (capacityOf_bounds c).1; omega
  exact ⟨State.resetWith_ring_wf c p, fun _ hcell => absurd hcell List.not_mem_nil, hpos, hpos⟩

theorem CommandEffect.keeps_ringInv {s t : State} {i : Instr} (h : CommandEffect s i t) (hs : RingInv s) :
    RingInv t := by
  cases h with
  | ringPush v => exact (hs.ringPush v).setResult _
  | acquire v | count v => exact (hs.acquire v).of_latch rfl rfl rfl (.inl rfl)
  | tick v =>
    have hdue : RingInv (s.acquire v).tickDue := (hs.acquire v).of_latch rfl rfl rfl (.inl rfl)
    exact hdue.runTickAtomic.setResult _
  | _ => exact hs.of_latch rfl rfl rfl (.inl rfl)

/-- Settles O43, by the induction over a step: pushes keep the canonical form and the ranges, and a frame's start
latches a CURSOR in range. -/
theorem stepsKeepTheRing : Obligations.StepsKeepTheRing := by
  intro s t hinv h
  refine step_keeps (P := RingInv) ?pending ?fault ?command ?render ?reset hinv h
  case pending => exact fun _ _ hu => hu.of_latch rfl rfl rfl (.inl rfl)
  case fault => exact fun _ _ _ _ hu => hu.of_latch rfl rfl rfl (.inl rfl)
  case command => exact fun _ _ _ hu he => he.keeps_ringInv hu
  case render => exact fun _ _ hu => hu.renderStep
  case reset => exact fun rest _ => .resetWith s.cfg rest

/-! ### The zoom registers -/

/-- An integer in the range of s32 is read back from its two's-complement pattern (`30_encoding.md` R82, R87). -/
theorem s32_u32OfInt {x : Int} (hlo : -2 ^ 31 ≤ x) (hhi : x < 2 ^ 31) : s32 (u32OfInt x) = x :=
  BitVec.toInt_ofInt_eq_self (by decide) hlo hhi

/-- The legal zoom range holds 1 and lies in the range of s32 (`43_zoom_resampler.md` R180). -/
theorem zoomRange_bounds (c : Config) : -255 ≤ zoomLow c ∧ zoomLow c ≤ 1 ∧ 1 ≤ zoomHigh c ∧ zoomHigh c ≤ 255 := by
  have hmin := minZoomOf_bounds c
  have hmax := maxZoomOf_bounds c
  unfold zoomLow zoomHigh
  split <;> omega

theorem clampInt_bounds (v : Int) {lo hi : Int} (h : lo ≤ hi) : lo ≤ clampInt v lo hi ∧ clampInt v lo hi ≤ hi := by
  unfold clampInt
  split
  · omega
  · split <;> omega

/-- What ZOOM_SET stores is legal, whatever is asked (`43_zoom_resampler.md` R180, R181). -/
theorem zoomLegal_clampZoom (c : Config) (v : Int) : zoomLegal c (u32OfInt (clampZoom c v)) := by
  have hrange := zoomRange_bounds c
  have hclamp : zoomLow c ≤ clampZoom c v ∧ clampZoom c v ≤ zoomHigh c := clampInt_bounds v (by omega)
  unfold zoomLegal
  rwa [s32_u32OfInt (by omega) (by omega)]

theorem zoomLegal_one (c : Config) : zoomLegal c 1#32 := by
  obtain ⟨-, hlow, hhigh, -⟩ := zoomRange_bounds c
  exact ⟨hlow, hhigh⟩

/-- The zoom invariant reads ZOOM and FZOOM only, and FZOOM may be latched from ZOOM. -/
theorem ZoomInv.of_latch {s t : State} (h : ZoomInv s) (hcfg : t.cfg = s.cfg) (hzoom : t.zoom = s.zoom)
    (hfzoom : t.fzoom = s.fzoom ∨ t.fzoom = s.zoom) : ZoomInv t where
  zoomOk := by rw [hcfg, hzoom]; exact h.zoomOk
  fzoomOk := by
    obtain hf | hf := hfzoom <;> rw [hcfg, hf]
    · exact h.fzoomOk
    · exact h.zoomOk

theorem ZoomInv.setResult {s : State} (h : ZoomInv s) (v : Word32) : ZoomInv (s.setResult v) :=
  h.of_latch rfl rfl (.inl rfl)

theorem ZoomInv.acquire {s : State} (h : ZoomInv s) (v : Sample) : ZoomInv (s.acquire v) := by
  rw [State.acquire_eq]
  exact h.of_latch rfl rfl (.inl rfl)

theorem ZoomInv.renderStep {s : State} (h : ZoomInv s) : ZoomInv s.renderStep :=
  have hhost := s.renderStep_hostRegs
  h.of_latch (congrArg HostRegs.cfg hhost) (congrArg HostRegs.zoom hhost) (s.renderStep_latch.imp And.right And.right)

theorem ZoomInv.runTickAtomic {s : State} (h : ZoomInv s) : ZoomInv s.runTickAtomic :=
  State.runTickAtomic_keeps (fun _ hu => hu.of_latch rfl rfl (.inl rfl)) (fun _ _ hu => hu.renderStep) h

theorem CommandEffect.keeps_zoomInv {s t : State} {i : Instr} (h : CommandEffect s i t) (hs : ZoomInv s) :
    ZoomInv t := by
  cases h with
  | zoomSet f => exact ⟨zoomLegal_clampZoom s.cfg (s32 f), hs.fzoomOk⟩
  | acquire v | count v => exact (hs.acquire v).of_latch rfl rfl (.inl rfl)
  | tick v =>
    have hdue : ZoomInv (s.acquire v).tickDue := (hs.acquire v).of_latch rfl rfl (.inl rfl)
    exact hdue.runTickAtomic.setResult _
  | _ => exact hs.of_latch rfl rfl (.inl rfl)

/-- Settles O44, by the induction over a step: ZOOM_SET clamps, and a frame's start latches a legal ZOOM. -/
theorem stepsKeepTheZoomLegal : Obligations.StepsKeepTheZoomLegal := by
  intro s t hinv h
  refine step_keeps (P := ZoomInv) ?pending ?fault ?command ?render ?reset hinv h
  case pending => exact fun _ _ hu => hu.of_latch rfl rfl (.inl rfl)
  case fault => exact fun _ _ _ _ hu => hu.of_latch rfl rfl (.inl rfl)
  case command => exact fun _ _ _ hu he => he.keeps_zoomInv hu
  case render => exact fun _ _ hu => hu.renderStep
  case reset => exact fun _ _ => ⟨zoomLegal_one s.cfg, zoomLegal_one s.cfg⟩

end Sys2Proof.Machine
end

section
/-! PROOF. A tick ends: the number of render steps left to it falls with every step (`44_render_scheduler.md` R220). -/

namespace Sys2Proof.Machine

open Sys2Proof

/-- A bound on the steps from a phase to the end of the swath's flush: 3 to the first row, 4 for each row from FLUSH_ROW
on, 1 for END. -/
def flushRank (p : FlushPhase) (row : Nat) : Nat :=
  match p with
  | .diff => 264
  | .busCmd => 263
  | .busSelCol => 262
  | .rowCmd => 4 * (64 - row) + 5
  | .rowSel => 4 * (64 - row) + 4
  | .rowDph => 4 * (64 - row) + 3
  | .rowWr => 4 * (64 - row) + 2
  | .busEnd => 1

/-- A bound on the steps from a scheduler state to the end of the tick, the columns still to fill not counted; `flush`
bounds the steps of the flush in progress. -/
def schedRank (st : SchedState) (flush : Nat) : Nat :=
  match st with
  | .idle => 0
  | .frameStart => 2
  | .columnFill => 1
  | .swathFlush => 1 + flush
  | .frameDone => 1

/-- A bound on the render steps left to the tick: every column left may flush a swath, and an ABORT still set restarts
one flush (`44_render_scheduler.md` R208). -/
def tickRank (s : State) : Nat :=
  schedRank s.schedState (flushRank s.flushPhase s.flushRow.toNat) + 265 * s.tickLeft.toNat +
    (if s.abort then 265 else 0)

theorem flushRank_bounds (p : FlushPhase) (row : Nat) : 1 ≤ flushRank p row ∧ flushRank p row ≤ 264 := by
  cases p <;> simp only [flushRank] <;> omega

theorem schedRank_bounds {st : SchedState} {flush : Nat} (hst : st ≠ .idle) (hflush : flush ≤ 264) :
    1 ≤ schedRank st flush ∧ schedRank st flush ≤ 265 := by
  cases st with
  | idle => exact absurd rfl hst
  | _ => simp only [schedRank]; omega

theorem tickRank_bounds {s : State} (h : s.schedState ≠ .idle) : 1 ≤ tickRank s ∧ tickRank s ≤ tickFuel := by
  have hsched := schedRank_bounds h (flushRank_bounds s.flushPhase s.flushRow.toNat).2
  have hbudget := s.tickLeft.isLt
  unfold tickRank tickFuel
  split <;> omega

/-- The next transmitted row lies at or past the row asked for, so going to it skips no step of the bound. -/
theorem State.toRow_flushRank (s : State) (r : Nat) :
    flushRank (s.toRow r).flushPhase (s.toRow r).flushRow.toNat ≤ 4 * (65 - r) + 1 := by
  rw [State.toRow_flushPhase, State.toRow_flushRow]
  obtain ⟨hlt, hge, -, -⟩ | ⟨h64, -⟩ := nextRow_spec s.ops r
  · rw [if_pos hlt, BitVec.toNat_ofNat, Nat.mod_eq_of_lt (by omega)]
    simp only [flushRank]
    omega
  · rw [if_neg (by omega)]
    simp only [flushRank]
    omega

/-- A flush that ends leaves one step: the end of the tick, FRAME_DONE, or the next column, which the budget counts. -/
theorem State.afterFlush_schedRank (s : State) (flush : Nat) :
    s.afterFlush.schedState ≠ .idle ∧ schedRank s.afterFlush.schedState flush = 1 := by
  rw [State.afterFlush_schedState]
  split <;> exact ⟨nofun, rfl⟩

/-- A flush step that stays in the swath and leaves the budget and ABORT alone brings the tick nearer its end by as much
as the flush. -/
theorem tickRank_lt_of_flushRank {s t : State} (hs : s.schedState = .swathFlush) (ht : t.schedState = .swathFlush)
    (hbudget : t.tickLeft = s.tickLeft) (habort : t.abort = s.abort)
    (hrank : flushRank t.flushPhase t.flushRow.toNat < flushRank s.flushPhase s.flushRow.toNat) :
    tickRank t < tickRank s := by
  simp only [tickRank, hs, ht, hbudget, habort, schedRank]
  omega

theorem State.afterFlush_tickRank {s t : State} (hs : s.schedState = .swathFlush) (hbudget : t.tickLeft = s.tickLeft)
    (habort : t.abort = s.abort) : t.afterFlush.schedState ≠ .idle ∧ tickRank t.afterFlush < tickRank s := by
  have hflush := flushRank_bounds s.flushPhase s.flushRow.toNat
  obtain ⟨hidle, hrank⟩ := t.afterFlush_schedRank (flushRank t.afterFlush.flushPhase t.afterFlush.flushRow.toNat)
  refine ⟨hidle, ?_⟩
  rw [tickRank, tickRank, hrank, hs, State.afterFlush_tickLeft, State.afterFlush_abort, hbudget, habort, schedRank]
  omega

/-- A render step of the swath flush brings the tick nearer its end. -/
theorem State.flushStep_tickRank {s : State} (hs : s.schedState = .swathFlush) :
    s.flushStep.schedState ≠ .idle ∧ tickRank s.flushStep < tickRank s := by
  have stays : ∀ t : State, t.schedState = s.schedState → t.tickLeft = s.tickLeft → t.abort = s.abort →
      flushRank t.flushPhase t.flushRow.toNat < flushRank s.flushPhase s.flushRow.toNat →
      t.schedState ≠ .idle ∧ tickRank t < tickRank s := fun t hst hb ha hr =>
    ⟨by rw [hst, hs]; nofun, tickRank_lt_of_flushRank hs (hst.trans hs) hb ha hr⟩
  obtain ⟨hp, h⟩ | ⟨hp, h⟩ | ⟨hd, hb, ha, h⟩ | ⟨hp, -, h⟩ | ⟨hp, -, h⟩ | ⟨hp, -, h⟩ | ⟨hp, -, h⟩ | ⟨hp, -, h⟩ |
    ⟨hp, -, h⟩ := s.flushStep_cases <;> rw [h]
  · unfold State.diffStep
    dsimp only
    split
    · exact State.afterFlush_tickRank hs rfl rfl
    · exact stays _ rfl rfl rfl (by simp [hp, flushRank])
  · exact stays _ rfl rfl rfl (by simp [State.busCmdStep, hp, flushRank])
  · have hflush := flushRank_bounds s.flushPhase s.flushRow.toNat
    refine ⟨by simp [hs], ?_⟩
    simp only [tickRank, State.abortStep_schedState, State.abortStep_tickLeft, State.abortStep_abort,
      State.abortStep_flushPhase, hs, ha, schedRank, flushRank, if_true, Bool.false_eq_true, if_false]
    omega
  · refine stays _ rfl rfl rfl (Nat.lt_of_le_of_lt (State.toRow_flushRank _ 0) ?_)
    simp [hp, flushRank]
  · exact stays _ rfl rfl rfl (by simp [State.rowCmdStep, hp, flushRank])
  · exact stays _ rfl rfl rfl (by simp [State.rowSelStep, hp, flushRank])
  · exact stays _ rfl rfl rfl (by simp [State.rowDphStep, hp, flushRank])
  · refine stays _ rfl rfl rfl (Nat.lt_of_le_of_lt (State.toRow_flushRank _ (s.flushRow.toNat + 1)) ?_)
    simp only [hp, flushRank]
    omega
  · exact State.afterFlush_tickRank hs rfl rfl

/-- Filling a column uses one of the budget, which pays for the flush it may begin. -/
theorem State.columnFillStep_tickRank {s : State} (hs : s.schedState = .columnFill) :
    s.columnFillStep.renderActive = false ∨
      (s.columnFillStep.schedState ≠ .idle ∧ tickRank s.columnFillStep < tickRank s) := by
  unfold State.columnFillStep
  split
  case isTrue => exact .inl rfl
  case isFalse hbudget =>
    have hpaid : (s.tickLeft - 1#2).toNat + 1 = s.tickLeft.toNat := by bv_omega
    have habort : (s.drawColumn s.schedCol.toNat).abort = s.abort := rfl
    right
    by_cases hodd : s.schedCol.toNat % 2 = 1
    · simp only [tickRank, habort, hodd, hs, schedRank, flushRank, if_true]
      exact ⟨nofun, by omega⟩
    · simp only [tickRank, habort, hodd, hs, schedRank, if_false]
      exact ⟨nofun, by omega⟩

/-- A render step of a tick ends the tick or brings it nearer its end. -/
theorem State.renderStep_tickRank {s : State} (ha : s.renderActive = true) (hs : s.schedState ≠ .idle) :
    s.renderStep.renderActive = false ∨ (s.renderStep.schedState ≠ .idle ∧ tickRank s.renderStep < tickRank s) := by
  obtain ⟨hn, -⟩ | ⟨-, hi, -⟩ | ⟨-, hst, h⟩ | ⟨-, hst, h⟩ | ⟨-, hst, h⟩ | ⟨-, -, h⟩ := s.renderStep_cases
  · exact absurd (ha.symm.trans hn) nofun
  · exact absurd hi hs
  · rw [h]
    have hnext : tickRank s.frameStartStep = 1 + 265 * s.tickLeft.toNat + (if s.abort then 265 else 0) := rfl
    refine .inr ⟨nofun, ?_⟩
    rw [hnext, tickRank, hst, schedRank]
    omega
  · exact h ▸ State.columnFillStep_tickRank hst
  · exact .inr (h ▸ State.flushStep_tickRank hst)
  · exact .inl (h ▸ rfl)

theorem State.runWhileActive_ends : ∀ (fuel : Nat) (s : State),
    s.renderActive = false ∨ (s.schedState ≠ .idle ∧ tickRank s ≤ fuel) →
      (State.runWhileActive fuel s).renderActive = false
  | 0, s, h => by
    obtain ha | ⟨hs, hrank⟩ := h
    · exact ha
    · have := (tickRank_bounds hs).1
      omega
  | fuel + 1, s, h => by
    unfold State.runWhileActive
    split
    case isFalse ha => simpa using ha
    case isTrue ha =>
      obtain hn | ⟨hs, hrank⟩ := h
      · exact absurd (ha.symm.trans hn) nofun
      · exact State.runWhileActive_ends fuel _
          ((State.renderStep_tickRank ha hs).imp_right fun ⟨hs', hlt⟩ => ⟨hs', by omega⟩)

/-- A tick runs to its end, from any state (`44_render_scheduler.md` R220; log 8). -/
theorem State.runTickAtomic_renderActive (s : State) : s.runTickAtomic.renderActive = false := by
  have hs : s.tickStart.schedState ≠ .idle := by
    rw [State.tickStart_schedState]
    split
    · nofun
    · assumption
  exact State.runWhileActive_ends tickFuel _ (.inr ⟨hs, (tickRank_bounds hs).2⟩)

end Sys2Proof.Machine
end

section
/-! PROOF. The scheduler's micro-state and the sample count are kept legal by every step. -/

namespace Sys2Proof.Machine

open Sys2Proof

/-! ### The legal micro-states, state by state -/

theorem SchedInv.of_idle {s : State} (hst : s.schedState = .idle) (hcol : s.schedCol.toNat ≤ 128)
    (ha : s.renderActive = false) (hleft : s.tickLeft = 0#2) : SchedInv s := by
  constructor <;> simp [hst, hcol, ha, hleft]

theorem SchedInv.of_frameStart {s : State} (hst : s.schedState = .frameStart) (hcol : s.schedCol.toNat ≤ 128)
    (ha : s.renderActive = true) (hleft : s.tickLeft.toNat = colsPerTickOf s.cfg) : SchedInv s := by
  constructor <;> simp [hst, hcol, ha, hleft]

/-- In COLUMN_FILL a tick may stand between two columns; with two columns a tick, the next column and the budget left
have the same parity. -/
theorem SchedInv.of_columnFill {s : State} (hst : s.schedState = .columnFill) (hcol : s.schedCol.toNat < 128)
    (hinactive : s.renderActive = false → s.tickLeft = 0#2) (hmax : s.tickLeft.toNat ≤ colsPerTickOf s.cfg)
    (hparity : s.cfg.colsPerTick = .two → (s.schedCol.toNat + s.tickLeft.toNat) % 2 = 0) : SchedInv s where
  colMax := Nat.le_of_lt hcol
  idleInactive h := absurd (hst.symm.trans h) nofun
  inactiveStates _ := .inr hst
  inactiveBudget := hinactive
  budgetMax := hmax
  startBudget h := absurd (hst.symm.trans h) nofun
  fillCol _ := hcol
  fillParity _ := hparity
  flushCol h := absurd (hst.symm.trans h) nofun
  flushBudget h := absurd (hst.symm.trans h) nofun
  doneCol h := absurd (hst.symm.trans h) nofun
  doneBudget h := absurd (hst.symm.trans h) nofun

theorem SchedInv.of_swathFlush {s : State} (hst : s.schedState = .swathFlush) (hcol : s.schedCol.toNat ≤ 128)
    (ha : s.renderActive = true) (hleft : s.tickLeft = 0#2) (heven : s.schedCol.toNat % 2 = 0)
    (hfirst : 2 ≤ s.schedCol.toNat) : SchedInv s := by
  constructor <;> simp [hst, hcol, ha, hleft, heven, hfirst]

theorem SchedInv.of_frameDone {s : State} (hst : s.schedState = .frameDone) (hcol : s.schedCol.toNat = 128)
    (ha : s.renderActive = true) (hleft : s.tickLeft = 0#2) : SchedInv s := by
  constructor <;> simp [hst, hcol, ha, hleft]

theorem SchedInv.of_renderRegs {s t : State} (h : SchedInv s) (hcfg : t.cfg = s.cfg)
    (hregs : t.renderRegs = s.renderRegs) : SchedInv t := by
  obtain ⟨hst, hcol, hleft, -, -, ha, -, -⟩ := State.renderRegs_eq_iff.1 hregs
  cases h
  constructor <;> simp only [hcfg, hst, hcol, hleft, ha] <;> assumption

/-- Outside IDLE and COLUMN_FILL a tick is running (`44_render_scheduler.md` R204 to R217). -/
theorem SchedInv.active {s : State} (h : SchedInv s) (hidle : s.schedState ≠ .idle)
    (hfill : s.schedState ≠ .columnFill) : s.renderActive = true := by
  cases ha : s.renderActive with
  | true => rfl
  | false => exact absurd (h.inactiveStates ha) (by simp [hidle, hfill])

/-! ### Render steps -/

theorem colsPerTickOf_eq (c : Config) :
    (c.colsPerTick = .one ∧ colsPerTickOf c = 1) ∨ (c.colsPerTick = .two ∧ colsPerTickOf c = 2) := by
  unfold colsPerTickOf
  split
  case h_1 h => exact .inl ⟨h, rfl⟩
  case h_2 h => exact .inr ⟨h, rfl⟩

/-- TickStart begins a frame from IDLE and goes on with one from COLUMN_FILL, at an even column if a tick fills two. -/
theorem SchedInv.tickStart {s : State} (h : SchedInv s) (ha : s.renderActive = false) : SchedInv s.tickStart := by
  have hbudget : s.tickStart.tickLeft.toNat = colsPerTickOf s.tickStart.cfg := by
    rw [State.tickStart_tickLeft, State.tickStart_cfg, BitVec.toNat_ofNat]
    obtain ⟨-, hc⟩ | ⟨-, hc⟩ := colsPerTickOf_eq s.cfg <;> rw [hc]
  obtain hst | hst := h.inactiveStates ha
  · exact .of_frameStart (by rw [State.tickStart_schedState, if_pos hst]) h.colMax rfl hbudget
  · refine .of_columnFill (by simp [hst]) (h.fillCol hst) nofun (Nat.le_of_eq hbudget) fun htwo => ?_
    have hpar := h.fillParity hst htwo
    rw [h.inactiveBudget ha] at hpar
    have hc : colsPerTickOf s.tickStart.cfg = 2 := by
      rw [colsPerTickOf, show s.tickStart.cfg.colsPerTick = .two from htwo]
    rw [hbudget, hc, State.tickStart_schedCol]
    simp only [BitVec.toNat_ofNat] at hpar
    omega

theorem SchedInv.frameStartStep {s : State} (h : SchedInv s) (hst : s.schedState = .frameStart) :
    SchedInv s.frameStartStep := by
  have ha : s.renderActive = true := h.active (by simp [hst]) (by simp [hst])
  refine .of_columnFill rfl (Nat.zero_lt_succ 127) (fun hn => absurd (ha.symm.trans hn) nofun) h.budgetMax ?_
  intro htwo
  have hbudget : s.tickLeft.toNat = 2 := by
    rw [h.startBudget hst, colsPerTickOf, show s.cfg.colsPerTick = .two from htwo]
  change (0 + s.tickLeft.toNat) % 2 = 0
  omega

/-- A column filled: an even one leaves COLUMN_FILL in place, an odd one completes a swath with the budget used up. -/
theorem SchedInv.columnFillStep {s : State} (h : SchedInv s) (hst : s.schedState = .columnFill)
    (ha : s.renderActive = true) : SchedInv s.columnFillStep := by
  have hcol := h.fillCol hst
  have hmax := h.budgetMax
  have hpar := h.fillParity hst
  unfold State.columnFillStep
  split
  case isTrue hzero => exact .of_columnFill hst hcol (fun _ => hzero) hmax hpar
  case isFalse hbudget =>
    have hpaid : (s.tickLeft - 1#2).toNat + 1 = s.tickLeft.toNat := by bv_omega
    have hnext : (s.schedCol + 1#8).toNat = s.schedCol.toNat + 1 := by bv_omega
    have hcols := colsPerTickOf_eq s.cfg
    by_cases hodd : s.schedCol.toNat % 2 = 1
    · have hused : s.tickLeft - 1#2 = 0#2 := by
        apply BitVec.eq_of_toNat_eq
        change _ = 0
        obtain ⟨-, hc⟩ | ⟨htwo, hc⟩ := hcols
        · omega
        · have := hpar htwo
          omega
      refine .of_swathFlush (if_pos hodd) ?_ ha hused ?_ ?_ <;> dsimp only <;> omega
    · refine .of_columnFill ((if_neg hodd).trans hst) ?_ (fun hn => absurd (ha.symm.trans hn) nofun) ?_ fun htwo => ?_
      · dsimp only; omega
      · change (s.tickLeft - 1#2).toNat ≤ colsPerTickOf s.cfg
        omega
      · have := hpar htwo
        dsimp only; omega

/-- The flush stays in its swath, or ends and goes to the next column or to FRAME_DONE (`44_render_scheduler.md`
R216). -/
theorem State.flushStep_schedState (s : State) :
    s.flushStep.schedState = s.schedState ∨
      s.flushStep.schedState = (if s.schedCol = 128#8 then .frameDone else .columnFill) := by
  obtain ⟨-, h⟩ | ⟨-, h⟩ | ⟨-, -, -, h⟩ | ⟨-, -, h⟩ | ⟨-, -, h⟩ | ⟨-, -, h⟩ | ⟨-, -, h⟩ | ⟨-, -, h⟩ | ⟨-, -, h⟩ :=
    s.flushStep_cases <;> rw [h]
  case inl =>
    unfold State.diffStep
    dsimp only
    split
    · exact .inr rfl
    · exact .inl rfl
  case inr.inr.inr.inr.inr.inr.inr.inr => exact .inr rfl
  all_goals exact .inl rfl

theorem SchedInv.flushStep {s : State} (h : SchedInv s) (hst : s.schedState = .swathFlush) : SchedInv s.flushStep := by
  obtain ⟨hcol, hleft, hact, -, -, -⟩ := s.flushStep_frame
  obtain ⟨heven, hfirst⟩ := h.flushCol hst
  have hmax := h.colMax
  have hzero := hleft.trans (h.flushBudget hst)
  have ha := hact.trans (h.active (by simp [hst]) (by simp [hst]))
  obtain hstay | hend := s.flushStep_schedState
  · exact .of_swathFlush (hstay.trans hst) (hcol ▸ hmax) ha hzero (hcol ▸ heven) (hcol ▸ hfirst)
  · split at hend
    case isTrue hlast => exact .of_frameDone hend (by rw [hcol, hlast]; rfl) ha hzero
    case isFalse hmore =>
      have hlt : s.schedCol.toNat < 128 := by bv_omega
      exact .of_columnFill hend (hcol ▸ hlt) (fun _ => hzero) (by rw [hzero]; exact Nat.zero_le _)
        fun _ => by rw [hcol, hzero]; exact heven

theorem SchedInv.frameDoneStep {s : State} (h : SchedInv s) (hst : s.schedState = .frameDone) :
    SchedInv s.frameDoneStep := by
  rw [State.frameDoneStep, State.clearPerPolicy_frame]
  exact .of_idle rfl h.colMax rfl (h.doneBudget hst)

theorem SchedInv.renderStep {s : State} (h : SchedInv s) : SchedInv s.renderStep := by
  obtain ⟨ha, he⟩ | ⟨-, -, he⟩ | ⟨-, hst, he⟩ | ⟨ha, hst, he⟩ | ⟨-, hst, he⟩ | ⟨-, hst, he⟩ := s.renderStep_cases <;>
    rw [he]
  · exact h.tickStart ha
  · exact h
  · exact h.frameStartStep hst
  · exact h.columnFillStep hst ha
  · exact h.flushStep hst
  · exact h.frameDoneStep hst

theorem SchedInv.runTickAtomic {s : State} (h : SchedInv s) (ha : s.renderActive = false) : SchedInv s.runTickAtomic :=
  State.runWhileActive_keeps (fun _ _ hu => hu.renderStep) tickFuel _ (h.tickStart ha)

theorem SchedInv.resetWith (c : Config) (p : List PortEvent) : SchedInv (State.resetWith c p) :=
  .of_idle rfl (Nat.zero_le _) rfl rfl

/-! ### The sample count and the tick request -/

theorem TimerInv.resetWith (c : Config) (p : List PortEvent) : TimerInv (State.resetWith c p) :=
  ⟨Nat.lt_of_lt_of_le Nat.zero_lt_one (tickSamplesOf_bounds c).1, fun _ => rfl, fun _ => ⟨rfl, rfl⟩⟩

/-- A change that leaves the count and RENDER_ACTIVE alone and requests no tick in the single-timer configuration. -/
theorem TimerInv.of_quiet {s t : State} (h : TimerInv s) (hcfg : t.cfg = s.cfg) (hcnt : t.tickcnt = s.tickcnt)
    (hactive : t.renderActive = s.renderActive)
    (hreq : s.cfg.schedMode = .singleTimer → s.renderReq = false → t.renderReq = false) : TimerInv t where
  countBelow := by rw [hcnt, hcfg]; exact h.countBelow
  dualCount hd := hcnt.trans (h.dualCount (hcfg ▸ hd))
  singleQuiet hm := by
    rw [hcfg] at hm
    obtain ⟨ha, hr⟩ := h.singleQuiet hm
    exact ⟨hactive.trans ha, hreq hm hr⟩

/-- In the dual-timer configuration only the count is bound. -/
theorem TimerInv.of_dualTimer {s t : State} (h : TimerInv s) (hd : s.cfg.schedMode = .dualTimer) (hcfg : t.cfg = s.cfg)
    (hcnt : t.tickcnt = s.tickcnt) : TimerInv t where
  countBelow := by rw [hcnt, hcfg]; exact h.countBelow
  dualCount _ := hcnt.trans (h.dualCount hd)
  singleQuiet hm := by
    rw [hcfg] at hm
    exact absurd (hd.symm.trans hm) nofun

/-- In the single-timer configuration the count is bound, and no tick is requested or running. -/
theorem TimerInv.of_singleTimer {t : State} (hm : t.cfg.schedMode = .singleTimer)
    (hcnt : t.tickcnt.toNat < tickSamplesOf t.cfg) (ha : t.renderActive = false) (hr : t.renderReq = false) :
    TimerInv t :=
  ⟨hcnt, fun hd => absurd (hm.symm.trans hd) nofun, fun _ => ⟨ha, hr⟩⟩

/-- A render step of a running tick requests none. -/
theorem State.renderStep_renderReq {s : State} (ha : s.renderActive = true) : s.renderStep.renderReq = s.renderReq := by
  obtain ⟨hn, -⟩ | ⟨-, -, h⟩ | ⟨-, -, h⟩ | ⟨-, -, h⟩ | ⟨-, -, h⟩ | ⟨-, -, h⟩ := s.renderStep_cases
  · exact absurd (ha.symm.trans hn) nofun
  all_goals rw [h]
  · rfl
  · unfold State.columnFillStep
    split <;> rfl
  · obtain ⟨-, -, -, hreq, -, -⟩ := s.flushStep_frame
    exact hreq
  · rw [State.frameDoneStep, State.clearPerPolicy_frame]
    rfl

theorem State.runTickAtomic_renderReq (s : State) : s.runTickAtomic.renderReq = false :=
  State.runWhileActive_keeps (P := fun u => u.renderReq = false)
    (fun _ ha hu => (State.renderStep_renderReq ha).trans hu) tickFuel _ rfl

theorem singleTimer_of_countsSamples {s : State} (h : countsSamples s = true) : s.cfg.schedMode = .singleTimer := by
  simp only [countsSamples, Bool.and_eq_true, decide_eq_true_eq] at h
  exact h.1

theorem State.acquire_cfg (s : State) (v : Sample) : (s.acquire v).cfg = s.cfg :=
  congrArg HostRegs.cfg (s.acquire_hostRegs v)

theorem State.acquire_renderActive (s : State) (v : Sample) : (s.acquire v).renderActive = s.renderActive :=
  congrArg RenderRegs.renderActive (s.acquire_renderRegs v)

theorem TimerInv.acquire {s : State} (h : TimerInv s) (v : Sample) : TimerInv (s.acquire v) := by
  rw [State.acquire_eq]
  exact h.of_quiet rfl rfl rfl fun _ hr => hr

theorem SchedInv.setResult {s : State} (h : SchedInv s) (v : Word32) : SchedInv (s.setResult v) :=
  h.of_renderRegs rfl rfl

theorem TimerInv.setResult {s : State} (h : TimerInv s) (v : Word32) : TimerInv (s.setResult v) :=
  h.of_quiet rfl rfl rfl fun _ hr => hr

theorem SchedInv.acquire {s : State} (h : SchedInv s) (v : Sample) : SchedInv (s.acquire v) :=
  h.of_renderRegs (s.acquire_cfg v) (s.acquire_renderRegs v)

/-- A sample counted short of TICK_SAMPLES keeps the count below it. -/
theorem TimerInv.count {s : State} (h : TimerInv s) (hm : s.cfg.schedMode = .singleTimer)
    (hn : s.tickcnt.toNat + 1 ≠ tickSamplesOf s.cfg) (v : Sample) :
    TimerInv { s.acquire v with tickcnt := s.tickcnt + 1#16 } := by
  have hbelow := h.countBelow
  have hbound := (tickSamplesOf_bounds s.cfg).2
  have hnext : (s.tickcnt + 1#16).toNat = s.tickcnt.toNat + 1 := by bv_omega
  obtain ⟨ha, hr⟩ := h.singleQuiet hm
  rw [State.acquire_eq]
  refine .of_singleTimer hm ?_ ha hr
  dsimp only [State.ringPush_cfg]
  omega

/-- A whole tick leaves the count at 0 and no tick behind (`44_render_scheduler.md` R220). -/
theorem TimerInv.runTickAtomic {s : State} (hm : s.cfg.schedMode = .singleTimer) :
    TimerInv s.tickDue.runTickAtomic := by
  have hhost := s.tickDue.runTickAtomic_hostRegs
  have hcfg : s.tickDue.runTickAtomic.cfg = s.cfg := congrArg HostRegs.cfg hhost
  have hcnt : s.tickDue.runTickAtomic.tickcnt = 0#16 := congrArg HostRegs.tickcnt hhost
  refine .of_singleTimer (hcfg ▸ hm) ?_ s.tickDue.runTickAtomic_renderActive s.tickDue.runTickAtomic_renderReq
  rw [hcnt, hcfg]
  exact Nat.lt_of_lt_of_le Nat.zero_lt_one (tickSamplesOf_bounds s.cfg).1

theorem CommandEffect.keeps_schedInv {s t : State} {i : Instr} (h : CommandEffect s i t) (hs : SchedInv s)
    (ht : TimerInv s) : SchedInv t := by
  cases h with
  | acquire v | count v => exact (hs.acquire v).of_renderRegs rfl rfl
  | tick v hc =>
    have ha : s.renderActive = false := (ht.singleQuiet (singleTimer_of_countsSamples hc)).1
    have hdue : SchedInv (s.acquire v).tickDue := (hs.acquire v).of_renderRegs rfl rfl
    exact (hdue.runTickAtomic ((s.acquire_renderActive v).trans ha)).setResult _
  | _ => exact hs.of_renderRegs rfl rfl

theorem CommandEffect.keeps_timerInv {s t : State} {i : Instr} (h : CommandEffect s i t) (hs : TimerInv s) :
    TimerInv t := by
  cases h with
  | acquire v => exact (hs.acquire v).setResult _
  | count v hc hn => exact (hs.count (singleTimer_of_countsSamples hc) hn v).setResult _
  | tick v hc =>
    have hm : (s.acquire v).cfg.schedMode = .singleTimer := s.acquire_cfg v ▸ singleTimer_of_countsSamples hc
    exact (TimerInv.runTickAtomic hm).setResult _
  | renderTick hd => exact hs.of_dualTimer hd rfl rfl
  | writeCtrl v => exact hs.of_quiet rfl rfl rfl fun _ hr => by simp [hr]
  | _ => exact hs.of_quiet rfl rfl rfl fun _ hr => hr

/-- A turn of the RENDER agent keeps the timer's invariant: it is taken in the dual-timer configuration only. -/
theorem TimerInv.renderStep {s : State} (h : TimerInv s) (hen : s.renderEnabled = true) : TimerInv s.renderStep :=
  h.of_dualTimer (State.dualTimer_of_renderEnabled hen) (congrArg HostRegs.cfg s.renderStep_hostRegs)
    (congrArg HostRegs.tickcnt s.renderStep_hostRegs)

/-- Settles O46, by the induction over a step; the tick inside a single-timer ACQ_SAMPLE keeps the micro-state legal
step by step and runs to its end. -/
theorem stepsKeepTheScheduler : Obligations.StepsKeepTheScheduler := by
  intro s t hsched htimer h
  refine step_keeps (P := fun u => SchedInv u ∧ TimerInv u) ?pending ?fault ?command ?render ?reset ⟨hsched, htimer⟩ h
  case pending => exact fun _ _ ⟨hs, ht⟩ => ⟨hs.of_renderRegs rfl rfl, ht.of_quiet rfl rfl rfl fun _ hr => hr⟩
  case fault => exact fun _ _ _ _ ⟨hs, ht⟩ => ⟨hs.of_renderRegs rfl rfl, ht.of_quiet rfl rfl rfl fun _ hr => hr⟩
  case command => exact fun _ _ _ ⟨hs, ht⟩ he => ⟨he.keeps_schedInv hs ht, he.keeps_timerInv ht⟩
  case render => exact fun _ hen ⟨hs, ht⟩ => ⟨hs.renderStep, ht.renderStep hen⟩
  case reset => exact fun rest _ => ⟨.resetWith s.cfg rest, .resetWith s.cfg rest⟩

end Sys2Proof.Machine
end

section
/-! PROOF. The swath flush and the bus flags are kept in agreement by every step. -/

namespace Sys2Proof.Machine

open Sys2Proof

/-! ### What the agreement says of a phase -/

/-- Outside SWATH_FLUSH no transmission is in progress. -/
theorem FlushInv.phase_diff {s : State} (h : FlushInv s) (hst : s.schedState ≠ .swathFlush) : s.flushPhase = .diff := by
  by_contra hp
  exact hst (h.phaseState hp)

/-- Up to BUS_CMD the bus is free and no release is remembered (`10_state.md` R41). -/
theorem FlushInv.busFree {s : State} (h : FlushInv s) (hp : pastBusCmd s.flushPhase = false) :
    s.rip = false ∧ s.abort = false := by
  have hflags := h.ripOrAbort
  rw [hp] at hflags
  simpa using hflags

/-- Past BUS_CMD, with no release remembered, the bus is held (`10_state.md` R41). -/
theorem FlushInv.busHeld {s : State} (h : FlushInv s) (hp : pastBusCmd s.flushPhase = true) (ha : s.abort = false) :
    s.rip = true := by
  have hflags := h.ripOrAbort
  rw [hp, ha] at hflags
  simpa using hflags

/-- Before a swath is compared, or after its flush has ended. -/
theorem FlushInv.of_diff {s : State} (hp : s.flushPhase = .diff) (hrip : s.rip = false) (ha : s.abort = false)
    (heven : s.opsLeft.toNat % 2 = 0) (hrow : s.flushRow.toNat ≤ 64) : FlushInv s where
  phaseState h := absurd hp h
  ripOrAbort := by rw [hp, hrip, ha]; rfl
  notBoth := by rw [hrip]; rfl
  opsLeftEven := heven
  opsSwath h := absurd hp h
  rowLive h := by rw [hp] at h; exact absurd h nofun
  rowMax := hrow

/-- A swath in transmission: its masks are those of the column pair just filled, and they are not blank. -/
structure InSwath (s : State) : Prop where
  flushing : s.schedState = .swathFlush
  leftEven : s.opsLeft.toNat % 2 = 0
  left : s.opsLeft.toNat = s.flushLeft
  notBlank : isBlank s.ops = false

theorem FlushInv.inSwath {s : State} (h : FlushInv s) (hp : s.flushPhase ≠ .diff) : InSwath s := by
  obtain ⟨hleft, hblank⟩ := h.opsSwath hp
  exact ⟨h.phaseState hp, h.opsLeftEven, hleft, hblank⟩

/-- Going to the next transmitted row, or to END, with the bus held (`44_render_scheduler.md` R210, R214). -/
theorem InSwath.toRow {s : State} (h : InSwath s) (hrip : s.rip = true) (ha : s.abort = false) (r : Nat) :
    FlushInv (s.toRow r) := by
  have hrow : (s.toRow r).flushRow.toNat = nextRow s.ops r := by
    have hle := nextRow_le s.ops r
    rw [State.toRow_flushRow, BitVec.toNat_ofNat, Nat.mod_eq_of_lt (by omega)]
  have hphase := s.toRow_flushPhase r
  obtain ⟨hlt, -, hany, -⟩ | ⟨h64, -⟩ := nextRow_spec s.ops r
  · rw [if_pos hlt] at hphase
    exact ⟨fun _ => h.flushing, by rw [hphase]; simp [hrip, pastBusCmd], by simp [ha], h.leftEven,
      fun _ => ⟨h.left, h.notBlank⟩, fun _ => by rw [hrow]; exact ⟨hlt, hany⟩, by omega⟩
  · rw [if_neg (by omega)] at hphase
    exact ⟨fun _ => h.flushing, by rw [hphase]; simp [hrip, pastBusCmd], by simp [ha], h.leftEven,
      fun _ => ⟨h.left, h.notBlank⟩, fun hp => by rw [hphase] at hp; exact absurd hp nofun, by omega⟩

/-- A row's step to the next of its phases (`44_render_scheduler.md` R211 to R213). -/
theorem FlushInv.rowPhaseStep {s : State} (h : FlushInv s) (hp : rowPhase s.flushPhase = true)
    (hpast : pastBusCmd s.flushPhase = true) (ev : BusEvent) {p : FlushPhase} (hp' : pastBusCmd p = true) :
    FlushInv { s.emit ev with flushPhase := p } := by
  have hdiff : s.flushPhase ≠ .diff := fun hd => by rw [hd] at hp; exact absurd hp nofun
  obtain ⟨hst, -, hleft, hblank⟩ := h.inSwath hdiff
  exact ⟨fun _ => hst, (h.ripOrAbort.trans hpast).trans hp'.symm, h.notBoth, h.opsLeftEven,
    fun _ => ⟨hleft, hblank⟩, fun _ => h.rowLive hp, h.rowMax⟩

/-! ### Render steps -/

theorem FlushInv.tickStart {s : State} (h : FlushInv s) : FlushInv s.tickStart :=
  ⟨fun hp => by simp [h.phaseState hp], h.ripOrAbort, h.notBoth, h.opsLeftEven, h.opsSwath, h.rowLive, h.rowMax⟩

theorem FlushInv.frameStartStep {s : State} (h : FlushInv s) (hst : s.schedState = .frameStart) :
    FlushInv s.frameStartStep := by
  have hp : s.flushPhase = .diff := h.phase_diff (by simp [hst])
  obtain ⟨hrip, ha⟩ := h.busFree (by rw [hp]; rfl)
  exact .of_diff hp hrip ha h.opsLeftEven h.rowMax

theorem FlushInv.columnFillStep {s : State} (h : FlushInv s) (hst : s.schedState = .columnFill) :
    FlushInv s.columnFillStep := by
  have hp : s.flushPhase = .diff := h.phase_diff (by simp [hst])
  obtain ⟨hrip, ha⟩ := h.busFree (by rw [hp]; rfl)
  unfold State.columnFillStep
  split
  · exact .of_diff hp hrip ha h.opsLeftEven h.rowMax
  · exact .of_diff (by simp [hp]) hrip ha h.opsLeftEven h.rowMax

/-- DiffStep takes the masks of the column pair just filled, and skips a blank swath (`44_render_scheduler.md` R207). -/
theorem FlushInv.diffStep {s : State} (hsched : SchedInv s) (h : FlushInv s) (hst : s.schedState = .swathFlush)
    (hp : s.flushPhase = .diff) : FlushInv s.diffStep := by
  obtain ⟨hrip, ha⟩ := h.busFree (by rw [hp]; rfl)
  obtain ⟨heven, hfirst⟩ := hsched.flushCol hst
  have hmax := hsched.colMax
  have hleft : (BitVec.ofNat 7 s.flushLeft).toNat = s.flushLeft := by
    rw [BitVec.toNat_ofNat, State.flushLeft, Nat.mod_eq_of_lt (by omega)]
  have hleftEven : (BitVec.ofNat 7 s.flushLeft).toNat % 2 = 0 := by
    rw [hleft, State.flushLeft]
    omega
  unfold State.diffStep
  dsimp only
  split
  case isTrue => exact .of_diff rfl hrip ha hleftEven h.rowMax
  case isFalse hblank =>
    have hflags : (s.rip || s.abort) = false := by rw [hrip, ha]; rfl
    exact ⟨fun _ => hst, hflags, h.notBoth, hleftEven, fun _ => ⟨hleft, by simpa using hblank⟩, nofun, Nat.zero_le _⟩

theorem FlushInv.busCmdStep {s : State} (h : FlushInv s) (hp : s.flushPhase = .busCmd) : FlushInv s.busCmdStep := by
  obtain ⟨-, ha⟩ := h.busFree (by rw [hp]; rfl)
  obtain ⟨hst, heven, hleft, hblank⟩ := h.inSwath (by simp [hp])
  exact ⟨fun _ => hst, rfl, ha, heven, fun _ => ⟨hleft, hblank⟩, nofun, h.rowMax⟩

theorem FlushInv.abortStep {s : State} (h : FlushInv s) (ha : s.abort = true) : FlushInv s.abortStep := by
  have hrip := h.notBoth
  rw [ha, Bool.and_true] at hrip
  exact .of_diff rfl hrip rfl h.opsLeftEven h.rowMax

theorem FlushInv.busSelColStep {s : State} (h : FlushInv s) (hp : s.flushPhase = .busSelCol) (ha : s.abort = false) :
    FlushInv s.busSelColStep := by
  obtain ⟨hst, heven, hleft, hblank⟩ := h.inSwath (by simp [hp])
  have hswath : InSwath (s.emit (selSwath s.opsLeft.toNat)) := ⟨hst, heven, hleft, hblank⟩
  exact hswath.toRow (h.busHeld (by rw [hp]; rfl) ha) ha 0

theorem FlushInv.rowWrStep {s : State} (h : FlushInv s) (hp : s.flushPhase = .rowWr) (ha : s.abort = false) :
    FlushInv s.rowWrStep := by
  obtain ⟨hst, heven, hleft, hblank⟩ := h.inSwath (by simp [hp])
  have hswath :
      InSwath ((s.emit (.write (rowByte s.ops s.flushRow.toNat))).commitRow s.opsLeft.toNat s.flushRow.toNat) :=
    ⟨hst, heven, hleft, hblank⟩
  exact hswath.toRow (h.busHeld (by rw [hp]; rfl) ha) ha (s.flushRow.toNat + 1)

theorem FlushInv.flushStep {s : State} (hsched : SchedInv s) (h : FlushInv s) (hst : s.schedState = .swathFlush) :
    FlushInv s.flushStep := by
  obtain ⟨hp, he⟩ | ⟨hp, he⟩ | ⟨-, -, ha, he⟩ | ⟨hp, ha, he⟩ | ⟨hp, -, he⟩ | ⟨hp, -, he⟩ | ⟨hp, -, he⟩ | ⟨hp, ha, he⟩ |
    ⟨hp, ha, he⟩ := s.flushStep_cases <;> rw [he]
  · exact h.diffStep hsched hst hp
  · exact h.busCmdStep hp
  · exact h.abortStep ha
  · exact h.busSelColStep hp ha
  · exact h.rowPhaseStep (by rw [hp]; rfl) (by rw [hp]; rfl) .cmd rfl
  · exact h.rowPhaseStep (by rw [hp]; rfl) (by rw [hp]; rfl) (selSingleRow s.flushRow.toNat) rfl
  · exact h.rowPhaseStep (by rw [hp]; rfl) (by rw [hp]; rfl) .data rfl
  · exact h.rowWrStep hp ha
  · exact .of_diff rfl rfl ha h.opsLeftEven h.rowMax

theorem FlushInv.frameDoneStep {s : State} (h : FlushInv s) (hst : s.schedState = .frameDone) :
    FlushInv s.frameDoneStep := by
  have hp : s.flushPhase = .diff := h.phase_diff (by simp [hst])
  obtain ⟨hrip, ha⟩ := h.busFree (by rw [hp]; rfl)
  rw [State.frameDoneStep, State.clearPerPolicy_frame]
  exact .of_diff hp hrip ha h.opsLeftEven h.rowMax

theorem FlushInv.renderStep {s : State} (hsched : SchedInv s) (h : FlushInv s) : FlushInv s.renderStep := by
  obtain ⟨-, he⟩ | ⟨-, -, he⟩ | ⟨-, hst, he⟩ | ⟨-, hst, he⟩ | ⟨-, hst, he⟩ | ⟨-, hst, he⟩ := s.renderStep_cases <;>
    rw [he]
  · exact h.tickStart
  · exact h
  · exact h.frameStartStep hst
  · exact h.columnFillStep hst
  · exact h.flushStep hsched hst
  · exact h.frameDoneStep hst

theorem FlushInv.runTickAtomic {s : State} (hsched : SchedInv s) (h : FlushInv s) (ha : s.renderActive = false) :
    FlushInv s.runTickAtomic := by
  obtain ⟨-, hkept⟩ : SchedInv s.runTickAtomic ∧ FlushInv s.runTickAtomic :=
    State.runWhileActive_keeps (P := fun u => SchedInv u ∧ FlushInv u)
      (fun _ _ ⟨hs, hf⟩ => ⟨hs.renderStep, hf.renderStep hs⟩) tickFuel _ ⟨hsched.tickStart ha, h.tickStart⟩
  exact hkept

/-! ### Commands -/

/-- A change that leaves the micro-state and the masks alone, and keeps one of RIP and ABORT set if one was. -/
theorem FlushInv.of_renderRegs {s t : State} (h : FlushInv s) (hregs : t.renderRegs = s.renderRegs)
    (hops : t.ops = s.ops) (hleft : t.opsLeft = s.opsLeft) (hflags : (t.rip || t.abort) = (s.rip || s.abort))
    (hboth : (t.rip && t.abort) = false) : FlushInv t := by
  obtain ⟨hst, hcol, -, hphase, hrow, -, -, -⟩ := State.renderRegs_eq_iff.1 hregs
  have hcolumn : t.flushLeft = s.flushLeft := by rw [State.flushLeft, hcol, State.flushLeft]
  exact {
    phaseState := by rw [hphase, hst]; exact h.phaseState
    ripOrAbort := by rw [hflags, hphase]; exact h.ripOrAbort
    notBoth := hboth
    opsLeftEven := by rw [hleft]; exact h.opsLeftEven
    opsSwath := by rw [hphase, hleft, hcolumn, hops]; exact h.opsSwath
    rowLive := by rw [hphase, hrow, hops]; exact h.rowLive
    rowMax := by rw [hrow]; exact h.rowMax }

theorem FlushInv.setResult {s : State} (h : FlushInv s) (v : Word32) : FlushInv (s.setResult v) :=
  h.of_renderRegs rfl rfl rfl rfl h.notBoth

theorem FlushInv.acquire {s : State} (h : FlushInv s) (v : Sample) : FlushInv (s.acquire v) := by
  rw [State.acquire_eq]
  exact h.of_renderRegs rfl rfl rfl (by simp [Bool.or_comm]) rfl

theorem FlushInv.resetWith (c : Config) (p : List PortEvent) : FlushInv (State.resetWith c p) :=
  .of_diff rfl rfl rfl rfl (Nat.zero_le _)

/-- A direct DIFF_SWATH finds no transmission in progress and stores an even left column (`41_diff_engine.md` R132). -/
theorem FlushInv.diffSwath {s : State} (hsched : SchedInv s) (h : FlushInv s) {l : Byte} (hg : writersGated s = false)
    (hl : leftColInRange l = true) (o : ColumnOperations) : FlushInv (s.setOps o (BitVec.ofNat 7 l.toNat)) := by
  have hp : s.flushPhase = .diff := by
    obtain hst | hst := hsched.inactiveStates (writersGated_eq_false.1 hg).2 <;> exact h.phase_diff (by simp [hst])
  obtain ⟨hrip, ha⟩ := h.busFree (by rw [hp]; rfl)
  simp only [leftColInRange, Bool.and_eq_true, decide_eq_true_eq] at hl
  refine .of_diff hp hrip ha ?_ h.rowMax
  rw [State.setOps_opsLeft, BitVec.toNat_ofNat]
  omega

theorem CommandEffect.keeps_flushInv {s t : State} {i : Instr} (h : CommandEffect s i t) (hs : SchedInv s)
    (ht : TimerInv s) (hf : FlushInv s) : FlushInv t := by
  cases h with
  | diffSwath l hg hl => exact (hf.diffSwath hs hg hl (s.diffSwath l.toNat)).setResult _
  | acquire v | count v => exact (hf.acquire v).of_renderRegs rfl rfl rfl rfl (hf.acquire v).notBoth
  | tick v hc =>
    have ha : s.renderActive = false := (ht.singleQuiet (singleTimer_of_countsSamples hc)).1
    have hs' : SchedInv (s.acquire v).tickDue := (hs.acquire v).of_renderRegs rfl rfl
    have hf' : FlushInv (s.acquire v).tickDue := (hf.acquire v).of_renderRegs rfl rfl rfl rfl (hf.acquire v).notBoth
    exact (hf'.runTickAtomic hs' ((s.acquire_renderActive v).trans ha)).setResult _
  | _ => exact hf.of_renderRegs rfl rfl rfl rfl hf.notBoth

/-- Settles O47, by the induction over a step, with the scheduler's invariants carried along: the columns of a swath are
even while it is flushed, and no transmission is in progress when the direct writers are admitted. -/
theorem stepsKeepTheFlush : Obligations.StepsKeepTheFlush := by
  intro s t hsched htimer hflush h
  obtain ⟨-, -, hkept⟩ : SchedInv t ∧ TimerInv t ∧ FlushInv t := by
    refine step_keeps (P := fun u => SchedInv u ∧ TimerInv u ∧ FlushInv u) ?pending ?fault ?command ?render ?reset
      ⟨hsched, htimer, hflush⟩ h
    case pending =>
      exact fun _ _ ⟨hs, ht, hf⟩ => ⟨hs.of_renderRegs rfl rfl, ht.of_quiet rfl rfl rfl fun _ hr => hr,
        hf.of_renderRegs rfl rfl rfl rfl hf.notBoth⟩
    case fault =>
      exact fun _ _ _ _ ⟨hs, ht, hf⟩ => ⟨hs.of_renderRegs rfl rfl, ht.of_quiet rfl rfl rfl fun _ hr => hr,
        hf.of_renderRegs rfl rfl rfl rfl hf.notBoth⟩
    case command =>
      exact fun _ _ _ ⟨hs, ht, hf⟩ he => ⟨he.keeps_schedInv hs ht, he.keeps_timerInv ht, he.keeps_flushInv hs ht hf⟩
    case render => exact fun _ hen ⟨hs, ht, hf⟩ => ⟨hs.renderStep, ht.renderStep hen, hf.renderStep hs⟩
    case reset => exact fun rest _ => ⟨.resetWith s.cfg rest, .resetWith s.cfg rest, .resetWith s.cfg rest⟩
  exact hkept

end Sys2Proof.Machine
end

section
/-! PROOF. The six read commands: the value each of them answers, and that no such value depends on RESULT. -/

namespace Sys2Proof.Machine

open Sys2Proof

/-- The command stores a value of the state in RESULT and does nothing else, and the value does not depend on RESULT. -/
structure ReadsInto (i : Instr) (value : State → Word32) : Prop where
  answers : ∀ s, exec i s = .next (s.setResult (value s))
  ignoresResult : ∀ s v, value (s.setResult v) = value s

/-- A read issued again finds the value it has just answered (`20_memory.md` R69). -/
theorem ReadsInto.repeats {i : Instr} {value : State → Word32} (h : ReadsInto i value) (s : State) :
    exec i (s.setResult (value s)) = .next (s.setResult (value s)) := by
  rw [h.answers, h.ignoresResult]
  rfl

/-! ### The reads -/

theorem readsInto_ringAt (o : Word32) :
    ReadsInto (.ringAt o) fun s => u32OfSample (s.ringReadFrom s.cursor (s32 o)) :=
  ⟨fun _ => rfl, fun _ _ => rfl⟩

theorem readsInto_pxPeek {c r : Byte} (h : coordInRange c r = true) :
    ReadsInto (.pxPeek c r) fun s => u32OfBit (s.pixel s.sh c.toNat r.toNat) :=
  ⟨fun _ => if_pos h, fun _ _ => rfl⟩

theorem readsInto_pxPeekLive {c r : Byte} (h : coordInRange c r = true) :
    ReadsInto (.pxPeekLive c r) fun s => u32OfBit (s.pixel s.lv c.toNat r.toNat) :=
  ⟨fun _ => if_pos h, fun _ _ => rfl⟩

theorem readsInto_opsIsBlank : ReadsInto .opsIsBlank fun s => u32OfBit (isBlank s.ops) :=
  ⟨fun _ => rfl, fun _ _ => rfl⟩

theorem readsInto_zoomOffset {c : Byte} (h : colInRange c = true) :
    ReadsInto (.zoomOffset c) fun s => u32OfInt (zoomOffset s.cfg (s32 s.zoom) c.toNat) :=
  ⟨fun _ => if_pos h, fun _ _ => rfl⟩

/-- Exactly the numbers that `45_register_access.md` R250 lists have a value. -/
theorem regValue_isSome (n : Byte) (s : State) : (regValue n s).isSome = regWellFormed n := by
  unfold regValue
  split
  case h_28 => -- no listed number
    simp only [imp_false] at *
    have hgap : 0x09 < n.toNat ∧ (0x10 ≤ n.toNat → 0x20 < n.toNat) := by omega
    simpa [regWellFormed] using hgap
  all_goals simp [regWellFormed, *]

theorem exec_regRead_of_regValue {n : Byte} {s : State} {v : Word32} (h : regValue n s = some v) :
    exec (.regRead n) s = .next (s.setResult v) := by
  simp only [exec, execRegRead, h]

theorem readsInto_regRead {n : Byte} (h : regWellFormed n = true) :
    ReadsInto (.regRead n) fun s => (regValue n s).getD 0#32 where
  answers s := by
    obtain ⟨v, hv⟩ := Option.isSome_iff_exists.1 ((regValue_isSome n s).trans h)
    rw [exec_regRead_of_regValue hv, hv, Option.getD_some]
  ignoresResult _ _ := rfl

/-- Settles O56: each of the six commands is a read of a value that its own answer does not change. -/
theorem readsChangeOnlyResult : Obligations.ReadsChangeOnlyResult := by
  intro i s hwf hi
  obtain ⟨value, hread⟩ : ∃ value, ReadsInto i value := by
    obtain ⟨o, rfl⟩ | ⟨c, r, rfl⟩ | ⟨c, r, rfl⟩ | rfl | ⟨c, rfl⟩ | ⟨n, rfl⟩ := hi
    · exact ⟨_, readsInto_ringAt o⟩
    · exact ⟨_, readsInto_pxPeek hwf⟩
    · exact ⟨_, readsInto_pxPeekLive hwf⟩
    · exact ⟨_, readsInto_opsIsBlank⟩
    · exact ⟨_, readsInto_zoomOffset hwf⟩
    · exact ⟨_, readsInto_regRead hwf⟩
  exact ⟨s.setResult (value s), hread.answers s, rfl, hread.repeats s⟩

end Sys2Proof.Machine
end

section
/-! PROOF. The decoder and the encoder are inverse to each other, a rejected word only records a fault, and a step runs
the command it decodes. -/

namespace Sys2Proof.Machine

open Sys2Proof

/-! ### A word and its fields -/

/-- Every bit of a word lies in one of its five fields (`30_encoding.md` R80). -/
theorem cwOf_fields (cw : Word) : cwOf (cwOpc cw) (cwRsv cw) (cwA cw) (cwB cw) (cwImm cw) = cw := by
  simp only [cwOf, cwOpc, cwRsv, cwA, cwB, cwImm]
  rw [BitVec.extractLsb'_append_extractLsb'_eq_extractLsb' (by rfl),
    BitVec.extractLsb'_append_extractLsb'_eq_extractLsb' (by rfl),
    BitVec.extractLsb'_append_extractLsb'_eq_extractLsb' (by rfl),
    BitVec.extractLsb'_append_extractLsb'_eq_extractLsb' (by rfl)]
  exact BitVec.extractLsb'_eq_self

/-- The word has a zero RSV and these operands (`30_encoding.md` R80, R81). -/
structure HasOperands (cw : Word) (a b : Byte) (imm : Word32) : Prop where
  rsv : cwRsv cw = 0#8
  a : cwA cw = a
  b : cwB cw = b
  imm : cwImm cw = imm

/-- The encoding of a command is the one word with its opcode byte and its operands (`30_encoding.md` R81, R89). -/
theorem encode_eq_iff {cw : Word} {i : Instr} :
    encode i = cw ↔ cwOpc cw = opcodeByte i ∧ HasOperands cw (aField i) (bField i) (immField i) := by
  constructor
  · rintro rfl
    obtain ⟨hopc, hrsv, ha, hb, himm⟩ := Laws.EncodeFields.of_cwOf i
    exact ⟨hopc, hrsv, ha, hb, himm⟩
  · rintro ⟨hopc, hrsv, ha, hb, himm⟩
    rw [encode, ← hopc, ← hrsv, ← ha, ← hb, ← himm, cwOf_fields]

/-! ### The operand forms -/

/-- No bit of `v` lies outside `m` exactly if `v` is what `m` shows of it. -/
theorem and_not_eq_zero_iff (v m : Word32) : v &&& ~~~m = 0#32 ↔ v = v &&& m := by
  refine ⟨fun h => ?_, fun h => ?_⟩
  · calc
      v = v &&& (m ||| ~~~m) := by rw [BitVec.or_not_self, BitVec.and_allOnes]
      _ = v &&& m := by rw [BitVec.and_or_distrib_left, h, BitVec.or_zero]
  · rw [h, BitVec.and_assoc, BitVec.and_not_self]
    exact BitVec.and_zero

/-- What IMM[15:0] shows is the sample, extended (`30_encoding.md` R81, R82). -/
theorem and_sampleMask (v : Word32) : v &&& 0x0000FFFF#32 = (v.extractLsb' 0 16).zeroExtend 32 := by
  apply BitVec.eq_of_toNat_eq
  have hmod : v.toNat &&& 0xFFFF = v.toNat % 2 ^ 16 := Nat.and_two_pow_sub_one_eq_mod v.toNat 16
  simp only [BitVec.toNat_and, BitVec.toNat_ofNat, BitVec.truncate_eq_setWidth, BitVec.toNat_setWidth,
    BitVec.extractLsb'_toNat, Nat.shiftRight_zero, Nat.reducePow, Nat.reduceMod, hmod]
  omega

theorem extractLsb'_zeroExtend_sample (v : Sample) : (v.zeroExtend 32).extractLsb' 0 16 = v :=
  (BitVec.extractLsb'_setWidth_of_le (by decide)).trans BitVec.extractLsb'_eq_self

/-- What IMM[0] shows is the value bit, extended (`30_encoding.md` R81, R82). -/
theorem and_bitMask (v : Word32) : v &&& 1#32 = if v.getLsbD 0 then 1#32 else 0#32 := by
  rw [BitVec.and_one_eq_setWidth_ofBool_getLsbD]
  cases v.getLsbD 0 <;> rfl

theorem and_immMask (v : Word32) : v &&& 0xFFFFFFFF#32 = v := BitVec.and_allOnes

theorem used_or_zero_iff (used : Bool) (b : Byte) : (used = true ∨ b = 0#8) ↔ b = if used then b else 0#8 := by
  cases used <;> simp

/-- Every field that the form does not use is 0 (`30_encoding.md` R81, R84). -/
theorem unusedZero_iff (f : OperandForm) (cw : Word) :
    unusedZero f cw = true ↔
      HasOperands cw (if f.usesA then cwA cw else 0#8) (if f.usesB then cwB cw else 0#8) (cwImm cw &&& f.immBits) := by
  simp only [unusedZero, Bool.and_eq_true, Bool.or_eq_true, decide_eq_true_eq, used_or_zero_iff, and_not_eq_zero_iff]
  constructor
  · rintro ⟨⟨⟨hrsv, ha⟩, hb⟩, himm⟩
    exact ⟨hrsv, ha, hb, himm⟩
  · rintro ⟨hrsv, ha, hb, himm⟩
    exact ⟨⟨⟨hrsv, ha⟩, hb⟩, himm⟩

section
variable {cw : Word}

theorem unusedZero_formNone : unusedZero formNone cw = true ↔ HasOperands cw 0#8 0#8 0#32 := by
  simp [unusedZero_iff, formNone]

theorem unusedZero_formA : unusedZero formA cw = true ↔ HasOperands cw (cwA cw) 0#8 0#32 := by
  simp [unusedZero_iff, formA]

theorem unusedZero_formAB : unusedZero formAB cw = true ↔ HasOperands cw (cwA cw) (cwB cw) 0#32 := by
  simp [unusedZero_iff, formAB]

theorem unusedZero_formABbit :
    unusedZero formABbit cw = true ↔
      HasOperands cw (cwA cw) (cwB cw) (if (cwImm cw).getLsbD 0 then 1#32 else 0#32) := by
  simp only [unusedZero_iff, formABbit, and_bitMask, if_true]

theorem unusedZero_formSample :
    unusedZero formSample cw = true ↔ HasOperands cw 0#8 0#8 (((cwImm cw).extractLsb' 0 16).zeroExtend 32) := by
  simp only [unusedZero_iff, formSample, and_sampleMask, Bool.false_eq_true, if_false]

theorem unusedZero_formImm : unusedZero formImm cw = true ↔ HasOperands cw 0#8 0#8 (cwImm cw) := by
  simp only [unusedZero_iff, formImm, and_immMask, Bool.false_eq_true, if_false]

theorem unusedZero_formAImm : unusedZero formAImm cw = true ↔ HasOperands cw (cwA cw) 0#8 (cwImm cw) := by
  simp only [unusedZero_iff, formAImm, and_immMask, Bool.false_eq_true, if_false, if_true]

end

theorem withForm_eq_ok_iff {f : OperandForm} {cw : Word} {i j : Instr} :
    withForm f cw i = .ok j ↔ unusedZero f cw = true ∧ i = j := by
  unfold withForm
  split <;> simp [*]

theorem withForm_eq_error {f : OperandForm} {cw : Word} {i : Instr} {e : DecodeRefusal}
    (h : withForm f cw i = .error e) : e = .reservedField := by
  unfold withForm at h
  split at h <;> cases h
  rfl

/-! ### Decoding -/

/-- A word that decodes has the opcode byte and the operands of its command; the cases are the decoder's arms in the
order of `30_encoding.md` R83, by operand form. -/
theorem encode_of_decode {cw : Word} {i : Instr} (h : decode cw = .ok i) : encode i = cw := by
  rw [encode_eq_iff]
  unfold decode at h
  split at h
  case h_17 => cases h -- no opcode of the map
  all_goals
    rename_i hopc
    obtain ⟨hz, rfl⟩ := withForm_eq_ok_iff.1 h
    refine ⟨BitVec.eq_of_toNat_eq hopc, ?_⟩
  case h_1 | h_13 => exact unusedZero_formSample.1 hz
  case h_2 | h_11 => exact unusedZero_formImm.1 hz
  case h_3 | h_7 => exact unusedZero_formAB.1 hz
  case h_4 => exact unusedZero_formABbit.1 hz
  case h_5 | h_6 | h_9 | h_10 | h_14 => exact unusedZero_formNone.1 hz
  case h_8 | h_12 | h_15 => exact unusedZero_formA.1 hz
  case h_16 => exact unusedZero_formAImm.1 hz

/-- The word of a command decodes to it. -/
theorem decode_of_encode {cw : Word} {i : Instr} (h : encode i = cw) : decode cw = .ok i := by
  obtain ⟨hopc, hops⟩ := encode_eq_iff.1 h
  unfold decode
  rw [hopc]
  cases i with
  | ringPush v | acqSample v =>
    have hv : (cwImm cw).extractLsb' 0 16 = v := by rw [hops.imm]; exact extractLsb'_zeroExtend_sample v
    subst hv
    exact withForm_eq_ok_iff.2 ⟨unusedZero_formSample.2 hops, rfl⟩
  | ringAt v | zoomSet v =>
    obtain ⟨hrsv, ha, hb, rfl⟩ := hops
    exact withForm_eq_ok_iff.2 ⟨unusedZero_formImm.2 ⟨hrsv, ha, hb, rfl⟩, rfl⟩
  | pxPeek c r | pxPeekLive c r =>
    obtain ⟨hrsv, rfl, rfl, himm⟩ := hops
    exact withForm_eq_ok_iff.2 ⟨unusedZero_formAB.2 ⟨hrsv, rfl, rfl, himm⟩, rfl⟩
  | pxPoke c r v =>
    have hv : (cwImm cw).getLsbD 0 = v := by rw [hops.imm, immField]; cases v <;> rfl
    obtain ⟨hrsv, rfl, rfl, himm⟩ := hops
    subst hv
    exact withForm_eq_ok_iff.2 ⟨unusedZero_formABbit.2 ⟨hrsv, rfl, rfl, himm⟩, rfl⟩
  | pxClear | pxSwap | opsIsBlank | swathRender | renderTick =>
    exact withForm_eq_ok_iff.2 ⟨unusedZero_formNone.2 hops, rfl⟩
  | diffSwath n | zoomOffset n | regRead n =>
    obtain ⟨hrsv, rfl, hb, himm⟩ := hops
    exact withForm_eq_ok_iff.2 ⟨unusedZero_formA.2 ⟨hrsv, rfl, hb, himm⟩, rfl⟩
  | regWrite n v =>
    obtain ⟨hrsv, rfl, hb, rfl⟩ := hops
    exact withForm_eq_ok_iff.2 ⟨unusedZero_formAImm.2 ⟨hrsv, rfl, hb, rfl⟩, rfl⟩

/-- The decoder and the encoder are inverse to each other (`30_encoding.md` R84, R89). -/
theorem decode_eq_ok_iff {cw : Word} {i : Instr} : decode cw = .ok i ↔ encode i = cw :=
  ⟨encode_of_decode, decode_of_encode⟩

/-- Settles O1: the word has the fields of its command, and the decoder reads the command from these fields. -/
theorem encodedCommandsDecodeBack : Obligations.EncodedCommandsDecodeBack := fun _ => decode_eq_ok_iff.2 rfl

/-- Settles O2: the word has the fields of the command that the decoder reads from it, and no bit lies outside them. -/
theorem decodedWordsAreEncodings : Obligations.DecodedWordsAreEncodings := fun _ _ => decode_eq_ok_iff.1

/-- Settles O4: each of the ten words is the encoding of its command. -/
theorem specWordsDecode : Obligations.SpecWordsDecode := by
  unfold Obligations.SpecWordsDecode
  simp only [decode_eq_ok_iff]
  decide

/-! ### Rejected words -/

theorem mem_legalOpcodes_iff (b : Byte) : b ∈ legalOpcodes ↔ b.toNat ∈ legalOpcodes.map BitVec.toNat :=
  (List.mem_map_of_injective fun _ _ => BitVec.eq_of_toNat_eq).symm

/-- The opcode byte is checked before the unused fields (`30_encoding.md` R84, R85). -/
theorem decode_error_eq {cw : Word} {e : DecodeRefusal} (h : decode cw = .error e) :
    e = if cwOpc cw ∈ legalOpcodes then .reservedField else .illegalOpcode := by
  unfold decode at h
  split at h
  case h_17 => -- no opcode of the map
    cases h
    have hnot : cwOpc cw ∉ legalOpcodes := by
      rw [mem_legalOpcodes_iff]
      simp_all [legalOpcodes]
    exact (if_neg hnot).symm
  all_goals
    rename_i hopc
    have hmem : cwOpc cw ∈ legalOpcodes := by
      rw [mem_legalOpcodes_iff, hopc]
      decide
    exact (withForm_eq_error h).trans (if_pos hmem).symm

/-- A fault of the decoder is of class ERR_ILLEGAL (`60_exceptions.md` R260). -/
theorem State.raiseFault_decodeFaultCode (s : State) (e : DecodeRefusal) (opc a : Byte) :
    s.raiseFault (decodeFaultCode e) opc a =
      { s with errIllegal := true, faultInfo := firstFault s (faultNumber (decodeFaultCode e)) opc a } := by
  cases e <;> simp [State.raiseFault, decodeFaultCode, setsErrIllegal, setsErrRange, setsErrBusy, firstFault]

/-- Settles O3: a word that no command encodes to does not decode, and the decoder's refusal is recorded. -/
theorem rejectedWordsOnlyRecordAFault : Obligations.RejectedWordsOnlyRecordAFault := by
  intro s cw hnone
  obtain ⟨i, hd, -⟩ | ⟨e, hd, hrun⟩ := runCommand_cases cw s
  · exact absurd (decode_eq_ok_iff.1 hd) (hnone i)
  · have hnumber : faultNumber (decodeFaultCode e) = if cwOpc cw ∈ legalOpcodes then 2#8 else 1#8 := by
      rw [decode_error_eq hd]
      split <;> rfl
    rw [hrun, State.raiseFault_decodeFaultCode, hnumber]

/-! ### Steps -/

/-- A whole word arrives on the port as it is (`20_memory.md` R66). -/
theorem commandWordOf_toNat (cw : Word) : commandWordOf 64 cw.toNat = cw := by
  rw [commandWordOf, Nat.mod_eq_of_lt cw.isLt, BitVec.ofNat_toNat, BitVec.setWidth_eq]

theorem runCommand_of_decode {cw : Word} {i : Instr} (h : decode cw = .ok i) (s : State) :
    runCommand cw s = exec i s := by
  simp only [runCommand, h]

/-- Settles O5: a step takes the first pending event, and a command word on the port is decoded and run. -/
theorem stepRunsTheDecodedCommand : Obligations.StepRunsTheDecodedCommand := by
  refine ⟨fun _ _ _ => step_of_cons, fun _ _ => rfl, ?decoded, ?arrived⟩
  case decoded =>
    intro s cw rest i hp hd
    rw [step_of_cons hp]
    exact runCommand_of_decode hd _
  case arrived =>
    intro s i hd
    rw [State.withFetchWord, commandWordOf_toNat, step_of_cons rfl]
    exact runCommand_of_decode hd s

end Sys2Proof.Machine
end

section
/-! PROOF. BUSLOG holds legal words only, and RIP = 1 exactly while a transaction stands open, over every step. -/

namespace Sys2Proof.Machine

open Sys2Proof

/-! ### The words the block emits -/

/-- The KIND field stands above the payload's two parts (`30_encoding.md` R95). -/
theorem extractLsb'_kind {u m n : Nat} (kind : BitVec u) (p : BitVec m) (q : BitVec n) :
    (kind ++ p ++ q).extractLsb' (m + n) u = kind := by
  rw [BitVec.extractLsb'_append_eq_of_le (Nat.le_add_left n m), Nat.add_sub_cancel, BitVec.extractLsb'_append_eq_left]

/-- A range with start = end is legal (`30_encoding.md` R96). -/
theorem busWordLegal_range {kind : BitVec 4} (hkind : kind = 3#4 ∨ kind = 4#4) (x : BitVec 6) :
    busWordLegal (kind ++ x ++ x) = true := by
  have hk : (kind ++ x ++ x).extractLsb' 12 4 = kind := extractLsb'_kind kind x x
  have hstart : (kind ++ x ++ x).extractLsb' 6 6 = x :=
    (BitVec.extractLsb'_append_eq_of_le (Nat.le_refl 6)).trans BitVec.extractLsb'_append_eq_right
  have hstop : (kind ++ x ++ x).extractLsb' 0 6 = x := BitVec.extractLsb'_append_eq_right
  have hsame := decide_eq_true (hstart.trans hstop.symm)
  obtain rfl | rfl := hkind <;> rw [busWordLegal, hk] <;> exact hsame

theorem busWordLegal_cmd : busWordLegal (busWord .cmd) = true := by decide

theorem busWordLegal_data : busWordLegal (busWord .data) = true := by decide

theorem busWordLegal_endTransaction : busWordLegal (busWord .endTransaction) = true := by decide

theorem busWordLegal_selSwath (l : Nat) : busWordLegal (busWord (selSwath l)) = true :=
  busWordLegal_range (.inl rfl) _

theorem busWordLegal_selSingleRow (r : Nat) : busWordLegal (busWord (selSingleRow r)) = true :=
  busWordLegal_range (.inr rfl) _

/-- A row's byte is one of four (`41_diff_engine.md` R136). -/
theorem busWordLegal_rowByte (o : ColumnOperations) (r : Nat) :
    busWordLegal (busWord (.write (rowByte o r))) = true := by
  unfold rowByte
  split <;> split <;> decide

/-- No other event has the KIND of END (`30_encoding.md` R95). -/
theorem busWord_eq_end_iff (ev : BusEvent) : busWord ev = busWord .endTransaction ↔ ev = .endTransaction := by
  refine ⟨fun h => ?_, fun h => h ▸ rfl⟩
  have hkind := congrArg (BitVec.extractLsb' 12 4) h
  cases ev with
  | cmd | data => exact absurd hkind (by decide)
  | selCol a b | selRow a b => exact absurd ((extractLsb'_kind _ a b).symm.trans hkind) (by decide)
  | write v => exact absurd ((extractLsb'_kind _ _ v).symm.trans hkind) (by decide)
  | endTransaction => rfl

theorem rowItems_legal {o : ColumnOperations} {r : Nat} {it : SwathItem} (h : it ∈ rowItems o r) :
    busWordLegal (busWord it.event) = true := by
  unfold rowItems at h
  split at h
  case isFalse => cases h
  case isTrue =>
    simp only [List.mem_cons, List.not_mem_nil, or_false] at h
    obtain rfl | rfl | rfl | rfl := h
    · exact busWordLegal_cmd
    · exact busWordLegal_selSingleRow r
    · exact busWordLegal_data
    · exact busWordLegal_rowByte o r

/-- A swath's transmission, if it is not empty, ends with END (`41_diff_engine.md` R138, R140). -/
theorem swathItems_eq (o : ColumnOperations) (l : Nat) :
    swathItems o l = [] ∨ ∃ items : List SwathItem, swathItems o l = items ++ [⟨.endTransaction, none⟩] := by
  unfold swathItems
  split
  · exact .inl rfl
  · exact .inr ⟨_, rfl⟩

theorem swathItems_legal {o : ColumnOperations} {l : Nat} {it : SwathItem} (h : it ∈ swathItems o l) :
    busWordLegal (busWord it.event) = true := by
  unfold swathItems at h
  split at h
  case isTrue => cases h
  case isFalse =>
    simp only [List.mem_append, List.mem_cons, List.not_mem_nil, or_false, List.mem_flatMap] at h
    obtain ((rfl | rfl) | ⟨r, -, hrow⟩) | rfl := h
    · exact busWordLegal_cmd
    · exact busWordLegal_selSwath l
    · exact rowItems_legal hrow
    · exact busWordLegal_endTransaction

/-! ### Appending to BUSLOG -/

theorem busOpen_concat (log : List EventWord) (ev : BusEvent) :
    busOpen (log ++ [busWord ev]) = decide (ev ≠ .endTransaction) := by
  simp [busOpen, busWord_eq_end_iff]

/-- A change that leaves BUSLOG and RIP alone. -/
theorem BusInv.of_bus {s t : State} (h : BusInv s) (hlog : t.buslog = s.buslog) (hrip : t.rip = s.rip) : BusInv t :=
  ⟨by rw [hlog]; exact h.wordsLegal, by rw [hlog, hrip]; exact h.ripOpen⟩

/-- Legal words added, the last of them `ev`, with RIP cleared by END and set by anything else. -/
theorem BusInv.append {s t : State} (h : BusInv s) (events : List EventWord) (ev : BusEvent)
    (hlog : t.buslog = s.buslog ++ (events ++ [busWord ev]))
    (hlegal : ∀ e ∈ events ++ [busWord ev], busWordLegal e = true)
    (hrip : t.rip = decide (ev ≠ .endTransaction)) : BusInv t where
  wordsLegal := by
    rw [hlog]
    exact fun e he => (List.mem_append.1 he).elim (h.wordsLegal e) (hlegal e)
  ripOpen := by rw [hlog, ← List.append_assoc, busOpen_concat, hrip]

/-- One legal word added. -/
theorem BusInv.emit {s t : State} (h : BusInv s) {ev : BusEvent} (hlegal : busWordLegal (busWord ev) = true)
    (hlog : t.buslog = s.buslog ++ [busWord ev]) (hrip : t.rip = decide (ev ≠ .endTransaction)) : BusInv t :=
  h.append [] ev hlog (by simpa using hlegal) hrip

theorem BusInv.resetWith (c : Config) (p : List PortEvent) : BusInv (State.resetWith c p) :=
  ⟨fun _ he => absurd he List.not_mem_nil, rfl⟩

/-! ### Render steps -/

theorem State.diffStep_rip (s : State) : s.diffStep.rip = s.rip := by
  unfold State.diffStep
  dsimp only
  split <;> rfl

theorem State.columnFillStep_rip (s : State) : s.columnFillStep.rip = s.rip := by
  unfold State.columnFillStep
  split <;> rfl


/-- A step of the flush emits its event with the bus held, and END gives the bus back (`44_render_scheduler.md` R207 to
R215). -/
theorem BusInv.flushStep {s : State} (hflush : FlushInv s) (h : BusInv s) : BusInv s.flushStep := by
  obtain ⟨-, he⟩ | ⟨-, he⟩ | ⟨-, -, -, he⟩ | ⟨hp, ha, he⟩ | ⟨hp, ha, he⟩ | ⟨hp, ha, he⟩ | ⟨hp, ha, he⟩ | ⟨hp, ha, he⟩ |
    ⟨-, -, he⟩ := s.flushStep_cases <;> rw [he]
  case inl => exact h.of_bus s.diffStep_buslog s.diffStep_rip
  case inr.inl => exact h.emit busWordLegal_cmd rfl rfl
  case inr.inr.inl => exact h.of_bus rfl rfl
  case inr.inr.inr.inr.inr.inr.inr.inr => exact h.emit busWordLegal_endTransaction rfl rfl
  all_goals have hrip : s.rip = true := hflush.busHeld (by rw [hp]; rfl) ha
  · exact h.emit (busWordLegal_selSwath _) rfl hrip
  · exact h.emit busWordLegal_cmd rfl hrip
  · exact h.emit (busWordLegal_selSingleRow _) rfl hrip
  · exact h.emit busWordLegal_data rfl hrip
  · exact h.emit (busWordLegal_rowByte ..) rfl hrip

/-- Render steps outside the flush emit nothing and leave RIP alone. -/
theorem BusInv.renderStep {s : State} (hflush : FlushInv s) (h : BusInv s) : BusInv s.renderStep := by
  obtain ⟨-, he⟩ | ⟨-, -, he⟩ | ⟨-, -, he⟩ | ⟨-, -, he⟩ | ⟨-, -, he⟩ | ⟨-, -, he⟩ := s.renderStep_cases <;> rw [he]
  · exact h.of_bus rfl rfl
  · exact h
  · exact h.of_bus rfl rfl
  · exact h.of_bus s.columnFillStep_buslog s.columnFillStep_rip
  · exact h.flushStep hflush
  · rw [State.frameDoneStep, State.clearPerPolicy_frame]
    exact h.of_bus rfl rfl

theorem BusInv.runTickAtomic {s : State} (hsched : SchedInv s) (hflush : FlushInv s) (h : BusInv s)
    (ha : s.renderActive = false) : BusInv s.runTickAtomic := by
  obtain ⟨-, -, hkept⟩ : SchedInv s.runTickAtomic ∧ FlushInv s.runTickAtomic ∧ BusInv s.runTickAtomic :=
    State.runWhileActive_keeps (P := fun u => SchedInv u ∧ FlushInv u ∧ BusInv u)
      (fun _ _ ⟨hs, hf, hb⟩ => ⟨hs.renderStep, hf.renderStep hs, hb.renderStep hf⟩) tickFuel _
      ⟨hsched.tickStart ha, hflush.tickStart, h.of_bus rfl rfl⟩
  exact hkept

/-! ### Commands -/

/-- The forced release ends an open transaction (`44_render_scheduler.md` R219, R222). -/
theorem BusInv.acquire {s : State} (h : BusInv s) (v : Sample) : BusInv (s.acquire v) := by
  rw [State.acquire_eq]
  cases hrip : s.rip with
  | false => exact h.of_bus (List.append_nil _) hrip.symm
  | true => exact h.emit busWordLegal_endTransaction rfl rfl

/-- No transmission is in progress when the direct writers are admitted (`70_reset_and_hazards.md` R295). -/
theorem FlushInv.rip_of_not_gated {s : State} (hsched : SchedInv s) (h : FlushInv s) (hg : writersGated s = false) :
    s.rip = false := by
  have hp : s.flushPhase = .diff := by
    obtain hst | hst := hsched.inactiveStates (writersGated_eq_false.1 hg).2 <;> exact h.phase_diff (by simp [hst])
  obtain ⟨hrip, -⟩ := h.busFree (by rw [hp]; rfl)
  exact hrip

/-- A direct SWATH_RENDER opens a transaction and ends it, or emits nothing (`41_diff_engine.md` R139, R140). -/
theorem BusInv.performSwath {s : State} (h : BusInv s) (hrip : s.rip = false) (o : ColumnOperations) (l : Nat) :
    BusInv (s.performItems l (swathItems o l)) := by
  have hlegal : ∀ e ∈ (swathItems o l).map (fun it => busWord it.event), busWordLegal e = true := by
    intro e he
    obtain ⟨it, hit, rfl⟩ := List.mem_map.1 he
    exact swathItems_legal hit
  rw [State.performItems_frame]
  obtain hnil | ⟨items, hitems⟩ := swathItems_eq o l
  · exact h.of_bus (by simp [hnil]) rfl
  · rw [hitems, List.map_append] at hlegal
    exact h.append _ .endTransaction (by simp [hitems]) hlegal hrip

theorem BusInv.of_raisesFault {i : Instr} {s t : State} (h : BusInv s) (hf : RaisesFault i s t) : BusInv t := by
  obtain ⟨k, rfl⟩ := hf
  exact h.of_bus rfl rfl

theorem BusInv.execSwathRender {s t : State} (hsched : SchedInv s) (hflush : FlushInv s) (h : BusInv s)
    (he : execSwathRender s = .next t) : BusInv t := by
  obtain ⟨hg, ht⟩ | hf := gatedWriter_effect he
  · cases ht
    exact (h.performSwath (hflush.rip_of_not_gated hsched hg) s.ops s.opsLeft.toNat).of_bus rfl rfl
  · exact h.of_raisesFault hf

/-- Of the commands that are no gated writers, ACQ_SAMPLE alone emits events. -/
theorem CommandEffect.keeps_busInv {s t : State} {i : Instr} (he : CommandEffect s i t) (hi : isGatedWriter i = false)
    (hsched : SchedInv s) (htimer : TimerInv s) (hflush : FlushInv s) (h : BusInv s) : BusInv t := by
  cases he with
  | plane i hg hwriter => exact absurd (hwriter.symm.trans hi) nofun
  | acquire v | count v => exact (h.acquire v).of_bus rfl rfl
  | tick v hc =>
    have ha : s.renderActive = false := (htimer.singleQuiet (singleTimer_of_countsSamples hc)).1
    have hsched' : SchedInv (s.acquire v).tickDue := (hsched.acquire v).of_renderRegs rfl rfl
    have hflush' : FlushInv (s.acquire v).tickDue :=
      (hflush.acquire v).of_renderRegs rfl rfl rfl rfl (hflush.acquire v).notBoth
    have hbus' : BusInv (s.acquire v).tickDue := (h.acquire v).of_bus rfl rfl
    exact (hbus'.runTickAtomic hsched' hflush' ((s.acquire_renderActive v).trans ha)).of_bus rfl rfl
  | _ => exact h.of_bus rfl rfl

/-- Of the gated writers, SWATH_RENDER alone emits events. -/
theorem BusInv.exec {s t : State} {i : Instr} (hsched : SchedInv s) (htimer : TimerInv s) (hflush : FlushInv s)
    (h : BusInv s) (he : exec i s = .next t) : BusInv t := by
  cases i with
  | ringPush v | pxClear | pxSwap =>
    obtain ⟨-, ht⟩ | hf := gatedWriter_effect he
    · cases ht
      exact h.of_bus rfl rfl
    · exact h.of_raisesFault hf
  | pxPoke c r v | diffSwath l =>
    obtain ⟨-, hchecked⟩ | hf := gatedWriter_effect he
    · obtain ⟨-, rfl⟩ | hf := checked_next hchecked
      · exact h.of_bus rfl rfl
      · exact h.of_raisesFault hf
    · exact h.of_raisesFault hf
  | swathRender => exact h.execSwathRender hsched hflush he
  | _ =>
    obtain heffect | hf := exec_next_cases he
    · exact heffect.keeps_busInv rfl hsched htimer hflush h
    · exact h.of_raisesFault hf

/-! ### Steps -/

/-- A turn of the RENDER agent changes nothing or is a render step. -/
theorem BusInv.renderTurn {s t : State} (hflush : FlushInv s) (h : BusInv s) (he : renderTurn s = .next t) :
    BusInv t := by
  obtain ⟨-, hr⟩ | ⟨-, -, hr⟩ | ⟨-, -, hr⟩ := renderTurn_cases s <;> cases hr.symm.trans he
  · exact h
  · exact h.renderStep hflush

/-- Settles O49, by the cases of a step: past BUS_CMD the flush holds the bus, so each event of it stands in an open
transaction; a direct SWATH_RENDER finds the bus free. -/
theorem stepsKeepTheBusLog : Obligations.StepsKeepTheBusLog := by
  intro s t hsched htimer hflush hbus h
  have hsched' (rest) : SchedInv (s.withPending rest) := hsched.of_renderRegs rfl rfl
  have htimer' (rest) : TimerInv (s.withPending rest) := htimer.of_quiet rfl rfl rfl fun _ hr => hr
  have hflush' (rest) : FlushInv (s.withPending rest) := hflush.of_renderRegs rfl rfl rfl rfl hflush.notBoth
  have hbus' (rest) : BusInv (s.withPending rest) := hbus.of_bus rfl rfl
  obtain ⟨-, ht⟩ | ⟨rest, -, ht⟩ | ⟨rest, -, rfl⟩ | ⟨cw, rest, e, -, -, rfl⟩ | ⟨cw, rest, i, -, -, he⟩ :=
    step_next_cases h
  · exact hbus.renderTurn hflush ht
  · exact (hbus' rest).renderTurn (hflush' rest) ht
  · exact .resetWith s.cfg rest
  · exact (hbus' rest).of_bus rfl rfl
  · exact (hbus' rest).exec (hsched' rest) (htimer' rest) (hflush' rest) he

end Sys2Proof.Machine
end

section
/-! PROOF. The pixel plane: its five commands in terms of the pixels they read and write, and the exchange of roles by
PX_SWAP and FRAME_DONE. -/

namespace Sys2Proof.Machine

open Sys2Proof

/-! ### Outcomes of gating and of range checks -/

theorem faultOf_busy (i : Instr) (s : State) : faultOf i .busy s = .next (afterBusy i s) := by
  simp [faultOf, State.raiseFault, afterBusy, firstFault, setsErrIllegal, setsErrRange, setsErrBusy, faultNumber]

theorem faultOf_range (i : Instr) (s : State) : faultOf i .range s = .next (afterRange i s) := by
  simp [faultOf, State.raiseFault, afterRange, firstFault, setsErrIllegal, setsErrRange, setsErrBusy, faultNumber]

theorem writersGated_eq_true {s : State} : writersGated s = true ↔ s.schedEn = true ∨ s.renderActive = true := by
  simp [writersGated]

/-- A gated writer that finds the render path in possession (`60_exceptions.md` R261). -/
theorem gatedWriter_busy (i : Instr) {s : State} (h : s.schedEn = true ∨ s.renderActive = true)
    (e : Host.Outcome State Fault Refusal) : gatedWriter i s e = .next (afterBusy i s) :=
  (if_pos (writersGated_eq_true.2 h)).trans (faultOf_busy i s)

/-- A gated writer in direct use (`70_reset_and_hazards.md` R295). -/
theorem gatedWriter_direct (i : Instr) {s : State} (hen : s.schedEn = false) (hact : s.renderActive = false)
    (e : Host.Outcome State Fault Refusal) : gatedWriter i s e = e :=
  gatedWriter_open i (writersGated_eq_false.2 ⟨hen, hact⟩) e

theorem coordInRange_iff {col row : Byte} : coordInRange col row = true ↔ col.toNat < 128 ∧ row.toNat < 64 := by
  simp only [coordInRange, Bool.and_eq_true, decide_eq_true_eq]
  rfl

theorem not_coordInRange {col row : Byte} (h : 128 ≤ col.toNat ∨ 64 ≤ row.toNat) : ¬ coordInRange col row = true := by
  rw [coordInRange_iff]
  omega

/-! ### Reading -/

/-- A pixel depends on the two buffers only. -/
theorem State.pixel_congr {s t : State} (h0 : t.p0 = s.p0) (h1 : t.p1 = s.p1) (b : Bool) (c r : Nat) :
    t.pixel b c r = s.pixel b c r := by
  rw [State.pixel, State.pixRead, State.pixBuf, h0, h1]
  rfl

theorem exec_pxPeek_outside {col row : Byte} (h : 128 ≤ col.toNat ∨ 64 ≤ row.toNat) (s : State) :
    exec (.pxPeek col row) s = .next (afterRange (.pxPeek col row) s) :=
  (if_neg (not_coordInRange h)).trans (faultOf_range _ s)

theorem exec_pxPeekLive_outside {col row : Byte} (h : 128 ≤ col.toNat ∨ 64 ≤ row.toNat) (s : State) :
    exec (.pxPeekLive col row) s = .next (afterRange (.pxPeekLive col row) s) :=
  (if_neg (not_coordInRange h)).trans (faultOf_range _ s)

/-- Settles O8: in range both peeks are reads of their pixel, out of range they fault. -/
theorem peeksReadTheirBuffer : Obligations.PeeksReadTheirBuffer := by
  refine fun s col row => ⟨fun hc hr => ?inside, fun h => ⟨exec_pxPeek_outside h s, exec_pxPeekLive_outside h s⟩⟩
  have hin := coordInRange_iff.2 ⟨hc, hr⟩
  exact ⟨(readsInto_pxPeek hin).answers s, (readsInto_pxPeekLive hin).answers s⟩

/-! ### Poking -/

theorem exec_pxPoke_outside {s : State} (hen : s.schedEn = false) (hact : s.renderActive = false) {col row : Byte}
    (h : 128 ≤ col.toNat ∨ 64 ≤ row.toNat) (v : Bool) :
    exec (.pxPoke col row v) s = .next (afterRange (.pxPoke col row v) s) :=
  (gatedWriter_direct _ hen hact _).trans ((if_neg (not_coordInRange h)).trans (faultOf_range _ s))

theorem exec_pxPoke_inside {s : State} (hen : s.schedEn = false) (hact : s.renderActive = false) {col row : Byte}
    (hc : col.toNat < 128) (hr : row.toNat < 64) (v : Bool) :
    exec (.pxPoke col row v) s = .next ((s.poke col.toNat row.toNat v).setResult 0#32) :=
  (gatedWriter_direct _ hen hact _).trans (if_pos (coordInRange_iff.2 ⟨hc, hr⟩))

/-- Settles O9: gated, out of range, or the poke of one pixel of the shadow. -/
theorem pokeWritesOnePixel : Obligations.PokeWritesOnePixel := by
  refine fun s col row v => ⟨fun hg => gatedWriter_busy _ hg _,
    fun hen hact hout => exec_pxPoke_outside hen hact hout v, fun hen hact hc hr => ?inside⟩
  refine ⟨_, exec_pxPoke_inside hen hact hc hr v, fun b c r => ?pixels, rfl⟩
  exact (State.pixel_congr rfl rfl b c r).trans (s.pixel_poke hc hr v b c r)

/-- Settles O10: the poke leaves SHADOW_SEL alone, so the peek reads the pixel poked. -/
theorem pokeThenPeekReturnsTheValue : Obligations.PokeThenPeekReturnsTheValue := by
  intro s col row v hen hact hc hr
  have hpoked : (s.poke col.toNat row.toNat v).pixel s.sh col.toNat row.toNat = v := by
    rw [s.pixel_poke hc hr, if_pos ⟨rfl, rfl, rfl⟩]
  refine ⟨_, _, exec_pxPoke_inside hen hact hc hr v,
    (readsInto_pxPeek (coordInRange_iff.2 ⟨hc, hr⟩)).answers _, ?_⟩
  exact congrArg u32OfBit hpoked

/-! ### Clearing -/

theorem exec_pxClear_direct {s : State} (hen : s.schedEn = false) (hact : s.renderActive = false) :
    exec .pxClear s = .next ((s.pixClear s.sh).setResult 0#32) :=
  gatedWriter_direct _ hen hact _

/-- Settles O11: the clear of one buffer leaves the other, which is live. -/
theorem clearZeroesTheShadowOnly : Obligations.ClearZeroesTheShadowOnly := by
  refine fun s => ⟨fun hg => gatedWriter_busy _ hg _, fun hen hact => ?direct⟩
  refine ⟨_, exec_pxClear_direct hen hact, fun c => ?shadow, fun c => ?live, rfl⟩
  case shadow => exact (s.pixRead_pixClear s.sh s.sh c).trans (if_pos rfl)
  case live => exact (s.pixRead_pixClear s.sh s.lv c).trans (if_neg s.lv_ne_sh)

/-! ### Exchanging the roles -/

@[simp] theorem State.sh_swapRoles (s : State) : s.swapRoles.sh = s.lv := rfl

@[simp] theorem State.lv_swapRoles (s : State) : s.swapRoles.lv = s.sh := Bool.not_not s.shadowSel

@[simp] theorem State.pixel_swapRoles (s : State) (b : Bool) (c r : Nat) : s.swapRoles.pixel b c r = s.pixel b c r := rfl

theorem exec_pxSwap_direct {s : State} (hen : s.schedEn = false) (hact : s.renderActive = false) :
    exec .pxSwap s = .next (s.swapRoles.setResult 0#32) :=
  gatedWriter_direct _ hen hact _

theorem State.clearPerPolicy_of_carry {s : State} (h : s.cfg.clearPolicy = .carry) : s.clearPerPolicy = s := by
  rw [State.clearPerPolicy, h]

/-- The clear policy is about the shadow: live stays as it is (`44_render_scheduler.md` R217). -/
theorem State.pixel_clearPerPolicy_lv (s : State) (c r : Nat) : s.clearPerPolicy.pixel s.lv c r = s.pixel s.lv c r := by
  unfold State.clearPerPolicy
  split
  case h_1 => -- CLEAR_ON_SWAP
    rw [State.pixel, State.pixRead_pixClear, if_neg s.lv_ne_sh, State.pixel]
  case h_2 => rfl

theorem State.renderStep_of_frameDone {s : State} (hact : s.renderActive = true) (hst : s.schedState = .frameDone) :
    s.renderStep = s.frameDoneStep := by
  simp only [State.renderStep, hact, hst, if_true]

/-- FRAME_DONE's pixels and roles are those of the exchange and the clear policy (`44_render_scheduler.md` R217). -/
theorem State.pixel_frameDoneStep (s : State) (b : Bool) (c r : Nat) :
    s.frameDoneStep.pixel b c r = s.swapRoles.clearPerPolicy.pixel b c r :=
  State.pixel_congr rfl rfl b c r

theorem State.shadowSel_frameDoneStep (s : State) : s.frameDoneStep.shadowSel = !s.shadowSel := by
  rw [State.frameDoneStep, State.clearPerPolicy_frame]
  rfl

theorem State.sh_frameDoneStep (s : State) : s.frameDoneStep.sh = s.lv := s.shadowSel_frameDoneStep

theorem State.lv_frameDoneStep (s : State) : s.frameDoneStep.lv = s.sh := by
  rw [State.lv, s.shadowSel_frameDoneStep, Bool.not_not, State.sh]

/-- Whatever the clear policy, live is after FRAME_DONE what shadow was. -/
theorem State.livePixel_frameDoneStep (s : State) (c r : Nat) :
    s.frameDoneStep.pixel s.frameDoneStep.lv c r = s.pixel s.sh c r := by
  have hlive := s.swapRoles.pixel_clearPerPolicy_lv c r
  rw [State.lv_swapRoles, State.pixel_swapRoles] at hlive
  rw [State.lv_frameDoneStep, State.pixel_frameDoneStep, hlive]

/-- Under CARRY shadow is after FRAME_DONE what live was. -/
theorem State.shadowPixel_frameDoneStep {s : State} (h : s.cfg.clearPolicy = .carry) (c r : Nat) :
    s.frameDoneStep.pixel s.frameDoneStep.sh c r = s.pixel s.lv c r := by
  rw [State.sh_frameDoneStep, State.pixel_frameDoneStep, State.clearPerPolicy_of_carry (s := s.swapRoles) h,
    State.pixel_swapRoles]

/-- Settles O12: both change which buffer plays which role, and of the buffers at most the new shadow. -/
theorem swapExchangesTheRoles : Obligations.SwapExchangesTheRoles := by
  refine fun s => ⟨fun hg => gatedWriter_busy _ hg _, fun hen hact => ?swap, fun hact hst => ?frameDone⟩
  case swap =>
    refine ⟨_, exec_pxSwap_direct hen hact, rfl, fun c r => rfl, fun c r => ?live⟩
    have hlv : (s.swapRoles.setResult 0#32).lv = s.sh := s.lv_swapRoles
    rw [hlv]
    exact State.pixel_congr rfl rfl s.sh c r
  case frameDone =>
    exact ⟨_, State.renderStep_of_frameDone hact hst, s.livePixel_frameDoneStep, State.shadowPixel_frameDoneStep⟩

end Sys2Proof.Machine
end

section
/-! PROOF. The diff engine's masks: what DIFF_SWATH puts into OPS row by row, which rows those masks transmit, and when
they are blank (`41_diff_engine.md` R130 to R135, R143). -/

namespace Sys2Proof.Machine

open Sys2Proof

/-! ### Transmitted rows and blank masks -/

/-- RowAny is one mask having the row's bit (`41_diff_engine.md` R135). -/
theorem rowAny_eq_rowSent (o : ColumnOperations) (r : Nat) : rowAny o r = rowSent o r := by
  simp [rowAny, opsUnion, rowSent]

theorem isBlank_iff_masks (o : ColumnOperations) :
    isBlank o = true ↔ o.el = 0#64 ∧ o.wl = 0#64 ∧ o.er = 0#64 ∧ o.wr = 0#64 := by
  simp only [isBlank, opsUnion, decide_eq_true_eq, BitVec.or_eq_zero_iff, and_assoc]

theorem eq_blank_of_isBlank {o : ColumnOperations} (h : isBlank o = true) : o = ColumnOperations.blank := by
  obtain ⟨hel, hwl, her, hwr⟩ := (isBlank_iff_masks o).1 h
  cases o
  simp_all [ColumnOperations.blank]

/-- Settles O14: the read command answers IsBlank, which is all four masks being 0. -/
theorem opsIsBlankReportsTheMasks : Obligations.OpsIsBlankReportsTheMasks := by
  intro s
  rw [readsInto_opsIsBlank.answers s, u32OfBit]
  simp only [isBlank_iff_masks]
  rfl

/-! ### The masks of a swath -/

/-- An erase mask has the rows where live alone is lit (`41_diff_engine.md` R130). -/
theorem getLsbD_eraseMask (shadow live : Column) (r : Nat) :
    (live &&& (shadow ^^^ live)).getLsbD r = (live.getLsbD r && !shadow.getLsbD r) := by
  rw [BitVec.getLsbD_and, BitVec.getLsbD_xor]
  cases live.getLsbD r <;> simp

/-- A write mask has the rows where shadow alone is lit (`41_diff_engine.md` R130). -/
theorem getLsbD_writeMask (shadow live : Column) (r : Nat) :
    (shadow &&& (shadow ^^^ live)).getLsbD r = (shadow.getLsbD r && !live.getLsbD r) := by
  rw [BitVec.getLsbD_and, BitVec.getLsbD_xor]
  cases shadow.getLsbD r <;> simp

theorem masksOfSwath_diffSwath (s : State) (l : Nat) : masksOfSwath s l (s.diffSwath l) := by
  intro r _
  unfold State.diffSwath
  cases s.cfg.mirror with
  | off => exact ⟨getLsbD_eraseMask .., getLsbD_writeMask .., getLsbD_eraseMask .., getLsbD_writeMask ..⟩
  | on =>
    simp only [mirrorPer, mirrorOps, diffColumns, BitVec.getLsbD_or, getLsbD_eraseMask, getLsbD_writeMask]
    exact ⟨rfl, rfl, rfl, rfl⟩

theorem erase_or_write_eq_bne (shadow live : Bool) : (live && !shadow || shadow && !live) = (shadow != live) := by
  cases shadow <;> cases live <;> rfl

/-- Before mirroring the transmitted rows are those where one of the two columns differs. -/
theorem rowSent_diffColumns (sL vL sR vR : Column) (r : Nat) :
    rowSent (diffColumns sL vL sR vR) r =
      ((sL.getLsbD r != vL.getLsbD r) || (sR.getLsbD r != vR.getLsbD r)) := by
  simp only [rowSent, diffColumns, getLsbD_eraseMask, getLsbD_writeMask]
  rw [Bool.or_assoc, erase_or_write_eq_bne, erase_or_write_eq_bne]

/-- Mirroring adds write bits only in rows that have a bit already (`41_diff_engine.md` R131, R143). -/
theorem rowSent_mirrorOps (o : ColumnOperations) (r : Nat) : rowSent (mirrorOps o) r = rowSent o r := by
  simp only [rowSent, mirrorOps, BitVec.getLsbD_or]
  cases o.el.getLsbD r <;> cases o.wl.getLsbD r <;> cases o.er.getLsbD r <;> simp

theorem rowSent_mirrorPer (m : MirrorPolicy) (o : ColumnOperations) (r : Nat) :
    rowSent (mirrorPer m o) r = rowSent o r := by
  cases m with
  | off => rfl
  | on => exact rowSent_mirrorOps o r

theorem rowSent_diffSwath (s : State) (l r : Nat) : rowSent (s.diffSwath l) r = swathDiffers s l r :=
  (rowSent_mirrorPer ..).trans (rowSent_diffColumns ..)

/-- Settles O17: mirroring leaves the transmitted rows of the plain diff alone. -/
theorem sentRowsAreTheDifferingRows : Obligations.SentRowsAreTheDifferingRows :=
  fun s l r _ _ _ => rowSent_diffSwath s l r

/-- A swath's diff is blank once shadow and live agree on both columns (`41_diff_engine.md` R144). -/
theorem State.diffSwath_eq_blank {s : State} {l : Nat} (h : ∀ r, swathDiffers s l r = false) :
    s.diffSwath l = ColumnOperations.blank :=
  eq_blank_of_isBlank ((isBlank_iff _).2 fun r _ => by rw [rowAny_eq_rowSent, rowSent_diffSwath, h])

/-! ### DIFF_SWATH -/

theorem leftColInRange_iff {l : Byte} : leftColInRange l = true ↔ l.toNat ≤ 126 ∧ l.toNat % 2 = 0 := by
  simp [leftColInRange]

/-- The state after DIFF_SWATH in direct use (`41_diff_engine.md` R132). -/
def State.diffedSwath (s : State) (l : Byte) : State :=
  (s.setOps (s.diffSwath l.toNat) (BitVec.ofNat 7 l.toNat)).setResult 0#32

theorem exec_diffSwath_inside {s : State} (hen : s.schedEn = false) (hact : s.renderActive = false) {l : Byte}
    (hmax : l.toNat ≤ 126) (heven : l.toNat % 2 = 0) : exec (.diffSwath l) s = .next (s.diffedSwath l) :=
  (gatedWriter_direct _ hen hact _).trans (if_pos (leftColInRange_iff.2 ⟨hmax, heven⟩))

theorem exec_diffSwath_outside {s : State} (hen : s.schedEn = false) (hact : s.renderActive = false) {l : Byte}
    (h : 126 < l.toNat ∨ l.toNat % 2 = 1) : exec (.diffSwath l) s = .next (afterRange (.diffSwath l) s) := by
  have hout : ¬ leftColInRange l = true := by
    rw [leftColInRange_iff]
    omega
  exact (gatedWriter_direct _ hen hact _).trans ((if_neg hout).trans (faultOf_range _ s))

/-- A left column in range fits OPS_LEFT (`10_state.md` R24). -/
theorem State.opsLeft_diffedSwath (s : State) {l : Byte} (hmax : l.toNat ≤ 126) :
    (s.diffedSwath l).opsLeft.toNat = l.toNat :=
  Nat.mod_eq_of_lt (by omega)

/-- Settles O13: gated, out of range, or the swath's masks into OPS. -/
theorem diffSwathComputesTheMasks : Obligations.DiffSwathComputesTheMasks :=
  fun s l => ⟨fun hg => gatedWriter_busy _ hg _, fun hen hact hout => exec_diffSwath_outside hen hact hout,
    fun hen hact hmax heven => ⟨_, exec_diffSwath_inside hen hact hmax heven, masksOfSwath_diffSwath s l.toNat,
      s.opsLeft_diffedSwath hmax, rfl⟩⟩

end Sys2Proof.Machine
end

section
/-! PROOF. SWATH_RENDER: the words it emits, the rows it commits, and the blank diff it leaves behind
(`41_diff_engine.md` R136 to R142). -/

namespace Sys2Proof.Machine

open Sys2Proof

/-! ### The words of a swath -/

/-- A word of a range with start = end, as a number (`30_encoding.md` R95, R96). -/
theorem rangeWord_eq_ofNat (kind : BitVec 4) {n : Nat} (hn : n < 64) :
    kind ++ BitVec.ofNat 6 n ++ BitVec.ofNat 6 n = BitVec.ofNat 16 (4096 * kind.toNat + 64 * n + n) := by
  have hk := kind.isLt
  apply BitVec.eq_of_toNat_eq
  simp only [BitVec.toNat_append, BitVec.toNat_ofNat, Nat.mod_eq_of_lt hn, Nat.reducePow,
    ← Nat.shiftLeft_add_eq_or_of_lt (i := 6) hn]
  omega

theorem busWord_selSwath {l : Nat} (hl : l < 128) :
    busWord (selSwath l) = BitVec.ofNat 16 (0x3000 + 64 * (l / 2) + l / 2) :=
  rangeWord_eq_ofNat 3#4 (by omega)

theorem busWord_selSingleRow {r : Nat} (hr : r < 64) :
    busWord (selSingleRow r) = BitVec.ofNat 16 (0x4000 + 64 * r + r) :=
  rangeWord_eq_ofNat 4#4 hr

theorem busWord_rowByte (o : ColumnOperations) (r : Nat) :
    busWord (.write (rowByte o r)) =
      BitVec.ofNat 16 (0x5000 + (if o.wl.getLsbD r then 0x0F else 0) + (if o.wr.getLsbD r then 0xF0 else 0)) := by
  unfold rowByte
  cases o.wl.getLsbD r <;> cases o.wr.getLsbD r <;> rfl

theorem map_busWord_rowItems (o : ColumnOperations) {r : Nat} (hr : r < 64) :
    (rowItems o r).map (fun it => busWord it.event) = rowWords o r := by
  unfold rowItems rowWords
  rw [rowAny_eq_rowSent]
  split
  · rw [← busWord_selSingleRow hr, ← busWord_rowByte]
    rfl
  · rfl

theorem map_busWord_swathItems (o : ColumnOperations) {l : Nat} (hl : l < 128) :
    (swathItems o l).map (fun it => busWord it.event) = swathWords o (l / 2) := by
  have hrows : (List.range 64).flatMap (fun r => (rowItems o r).map fun it => busWord it.event) =
      (List.range 64).flatMap (rowWords o) :=
    List.flatMap_congr fun r hr => map_busWord_rowItems o (List.mem_range.1 hr)
  unfold swathItems swathWords
  simp only [← isBlank_iff_masks]
  split
  · rfl
  · rw [List.map_append, List.map_append, List.map_flatMap, hrows, ← busWord_selSwath hl]
    rfl

theorem isBlank_iff_sentCount (o : ColumnOperations) : isBlank o = true ↔ sentCount o = 0 := by
  simp [isBlank_iff, sentCount, List.countP_eq_zero, rowAny_eq_rowSent]

theorem length_flatMap_rowWords (o : ColumnOperations) (rows : List Nat) :
    (rows.flatMap (rowWords o)).length = 4 * rows.countP (rowSent o) := by
  induction rows with
  | nil => rfl
  | cons r rows ih =>
    rw [List.flatMap_cons, List.length_append, ih, List.countP_cons, rowWords]
    split
    · rw [List.length_cons, List.length_cons, List.length_cons, List.length_singleton]
      omega
    · exact Nat.zero_add _

/-- Nothing for a blank swath, else 3 words and 4 for each transmitted row (`41_diff_engine.md` R138, R140). -/
theorem length_swathWords (o : ColumnOperations) (sw : Nat) :
    (swathWords o sw).length = if sentCount o = 0 then 0 else 3 + 4 * sentCount o := by
  unfold swathWords
  simp only [← isBlank_iff_masks, isBlank_iff_sentCount]
  split
  · rfl
  · rw [List.length_append, List.length_append, length_flatMap_rowWords, List.length_singleton, sentCount]
    simp only [List.length_cons, List.length_nil]
    omega

/-! ### The rows a transmission commits -/

/-- The rows that items commit, in order (`41_diff_engine.md` R138). -/
def committedRows (items : List SwathItem) : List Nat := items.filterMap SwathItem.commits

theorem commitCount_eq_length (items : List SwathItem) : commitCount items = (committedRows items).length :=
  List.length_filterMap_eq_countP.symm

theorem committedRows_rowItems (o : ColumnOperations) (r : Nat) :
    committedRows (rowItems o r) = (Option.guard (rowSent o) r).toList := by
  unfold rowItems Option.guard
  rw [rowAny_eq_rowSent]
  split <;> rfl

/-- The transmission of a swath commits its transmitted rows (`41_diff_engine.md` R138, R140). -/
theorem committedRows_swathItems (o : ColumnOperations) (l : Nat) :
    committedRows (swathItems o l) = (List.range 64).filter (rowSent o) := by
  have hrows : (List.range 64).flatMap (fun r => committedRows (rowItems o r)) =
      (List.range 64).filter (rowSent o) := by
    simp only [committedRows_rowItems]
    rw [← List.filterMap_eq_flatMap_toList, List.filterMap_eq_filter]
  unfold swathItems
  split
  case isTrue hblank =>
    have hnone : (List.range 64).filter (rowSent o) = [] := by
      simpa [rowAny_eq_rowSent] using (isBlank_iff o).1 hblank
    exact hnone.symm
  case isFalse =>
    rw [← hrows]
    simp [committedRows, List.filterMap_flatMap]

theorem commitCount_swathItems (o : ColumnOperations) (l : Nat) : commitCount (swathItems o l) = sentCount o := by
  rw [commitCount_eq_length, committedRows_swathItems, sentCount, List.countP_eq_length_filter]

/-- Rows past 63 are not transmitted. -/
theorem lt_of_rowSent {o : ColumnOperations} {r : Nat} (h : rowSent o r = true) : r < 64 := by
  by_contra hr
  simp [rowSent, BitVec.getLsbD_of_ge _ r (Nat.le_of_not_lt hr)] at h

theorem mem_committedRows_swathItems (o : ColumnOperations) (l r : Nat) :
    r ∈ committedRows (swathItems o l) ↔ rowSent o r = true := by
  rw [committedRows_swathItems, List.mem_filter, List.mem_range]
  exact and_iff_right_of_imp lt_of_rowSent

/-- The pixels after one item: its row committed, if it carries a commit. -/
theorem State.pixel_performItem (s : State) {l : Nat} (hl : l + 1 < 128) (it : SwathItem) (b : Bool) (c r : Nat) :
    (s.performItem l it).pixel b c r =
      if b = s.lv ∧ (c = l ∨ c = l + 1) ∧ it.commits = some r then s.pixel s.sh c r else s.pixel b c r := by
  unfold State.performItem
  cases it.commits with
  | none => simp [State.pixel_congr (s := s) (t := s.emit it.event) rfl rfl]
  | some q =>
    refine ((s.emit it.event).pixel_commitRow hl q b c r).trans ?_
    simp only [Option.some.injEq, eq_comm (a := q)]
    rfl

theorem State.sh_performItem (s : State) (l : Nat) (it : SwathItem) : (s.performItem l it).sh = s.sh := by
  rw [State.performItem_frame]
  rfl

theorem State.lv_performItem (s : State) (l : Nat) (it : SwathItem) : (s.performItem l it).lv = s.lv :=
  congrArg not (s.sh_performItem l it)

/-- The pixels after items in order: live agrees with shadow at every committed row of both columns, and nothing else
changes (`41_diff_engine.md` R137, R139). -/
theorem State.pixel_performItems {l : Nat} (hl : l + 1 < 128) (b : Bool) (c r : Nat) :
    ∀ (items : List SwathItem) (s : State), (s.performItems l items).pixel b c r =
      if b = s.lv ∧ (c = l ∨ c = l + 1) ∧ r ∈ committedRows items then s.pixel s.sh c r else s.pixel b c r
  | [], s => by simp [State.performItems, committedRows]
  | it :: rest, s => by
    have hmem : r ∈ committedRows (it :: rest) ↔ it.commits = some r ∨ r ∈ committedRows rest := by
      simp [committedRows]
    have hshadow : (s.performItem l it).pixel s.sh c r = s.pixel s.sh c r := by
      rw [s.pixel_performItem hl, if_neg fun h => s.lv_ne_sh h.1.symm]
    rw [State.performItems, State.pixel_performItems hl b c r rest, s.lv_performItem, s.sh_performItem, hshadow,
      s.pixel_performItem hl]
    simp only [hmem]
    by_cases hplace : b = s.lv ∧ (c = l ∨ c = l + 1)
    · by_cases hrest : r ∈ committedRows rest <;> simp [hplace, hrest]
    · simp [← and_assoc, hplace]

/-! ### SWATH_RENDER -/

/-- The state after SWATH_RENDER in direct use (`41_diff_engine.md` R139). -/
def State.renderedSwath (s : State) : State :=
  (s.performItems s.opsLeft.toNat (swathItems s.ops s.opsLeft.toNat)).setResult
    (BitVec.ofNat 32 (commitCount (swathItems s.ops s.opsLeft.toNat)))

theorem exec_swathRender_direct {s : State} (hen : s.schedEn = false) (hact : s.renderActive = false) :
    exec .swathRender s = .next s.renderedSwath :=
  gatedWriter_direct _ hen hact _

/-- SWATH_RENDER changes the buffers, BUSLOG and RESULT only. -/
theorem State.renderedSwath_frame (s : State) :
    s.renderedSwath =
      { s with
        p0 := s.renderedSwath.p0
        p1 := s.renderedSwath.p1
        buslog := s.buslog ++ swathWords s.ops (s.opsLeft.toNat / 2)
        result := BitVec.ofNat 32 (sentCount s.ops) } := by
  rw [State.renderedSwath, State.performItems_frame, map_busWord_swathItems s.ops s.opsLeft.isLt,
    commitCount_swathItems]
  rfl

/-- An even OPS_LEFT is the left column of a swath of the buffers (`10_state.md` R24). -/
theorem State.opsLeft_succ_lt {s : State} (h : s.opsLeft.toNat % 2 = 0) : s.opsLeft.toNat + 1 < 128 := by
  have := s.opsLeft.isLt
  omega

theorem State.pixel_renderedSwath {s : State} (h : s.opsLeft.toNat % 2 = 0) (b : Bool) (c r : Nat) :
    s.renderedSwath.pixel b c r =
      if b = s.lv ∧ (c = s.opsLeft.toNat ∨ c = s.opsLeft.toNat + 1) ∧ rowSent s.ops r = true
      then s.pixel s.sh c r else s.pixel b c r := by
  simp only [← mem_committedRows_swathItems s.ops s.opsLeft.toNat]
  exact State.pixel_performItems (State.opsLeft_succ_lt h) b c r _ s

/-- No more rows are sent than a swath has. -/
theorem sentCount_le (o : ColumnOperations) : sentCount o ≤ 64 :=
  List.countP_le_length.trans_eq List.length_range

/-- Settles O15: the items' words are the spec's numbers, and the rows they commit are the transmitted ones. -/
theorem swathRenderTransmitsAndCommits : Obligations.SwathRenderTransmitsAndCommits := by
  refine fun s => ⟨fun hg => gatedWriter_busy _ hg _, fun hen hact heven => ?direct⟩
  have hframe := s.renderedSwath_frame
  have hlog : s.renderedSwath.buslog = s.buslog ++ swathWords s.ops (s.opsLeft.toNat / 2) := by rw [hframe]
  have hresult : s.renderedSwath.result.toNat = sentCount s.ops := by
    have hmax := sentCount_le s.ops
    rw [hframe]
    exact Nat.mod_eq_of_lt (by omega)
  refine ⟨_, exec_swathRender_direct hen hact, hlog, ?length, hresult, State.pixel_renderedSwath heven, ?frame⟩
  case length => rw [hlog, List.length_append, length_swathWords]
  case frame => rw [hframe]

/-! ### The diff after a transmission -/

/-- After SWATH_RENDER the swath differs where it did before, the transmitted rows excepted. -/
theorem State.swathDiffers_renderedSwath {s : State} (h : s.opsLeft.toNat % 2 = 0) (r : Nat) :
    swathDiffers s.renderedSwath s.opsLeft.toNat r =
      (swathDiffers s s.opsLeft.toNat r && !rowSent s.ops r) := by
  have hsh : s.renderedSwath.sh = s.sh := by rw [s.renderedSwath_frame]; rfl
  have hlv : s.renderedSwath.lv = s.lv := by rw [s.renderedSwath_frame]; rfl
  simp only [swathDiffers, hsh, hlv, State.pixel_renderedSwath h]
  cases rowSent s.ops r <;> simp [s.lv_ne_sh.symm]

/-- The transmitted rows of a fresh diff are all the rows that differ, so after their commit none does
(`41_diff_engine.md` R142). -/
theorem State.diffSwath_renderedSwath {s : State} (heven : s.opsLeft.toNat % 2 = 0)
    (hfresh : s.ops = s.diffSwath s.opsLeft.toNat) :
    s.renderedSwath.diffSwath s.opsLeft.toNat = ColumnOperations.blank :=
  State.diffSwath_eq_blank fun r => by
    rw [State.swathDiffers_renderedSwath heven, hfresh, rowSent_diffSwath, Bool.and_not_self]

/-- Settles O16: DIFF_SWATH makes OPS fresh for its own swath, and SWATH_RENDER leaves the block in direct use. -/
theorem renderedSwathDiffsBlank : Obligations.RenderedSwathDiffsBlank := by
  intro s l hen hact hmax heven
  have hleft := s.opsLeft_diffedSwath hmax
  have hfresh : (s.diffedSwath l).ops = (s.diffedSwath l).diffSwath (s.diffedSwath l).opsLeft.toNat := by
    rw [hleft]
    rfl
  have hblank := State.diffSwath_renderedSwath (hleft ▸ heven) hfresh
  rw [hleft] at hblank
  have hframe := (s.diffedSwath l).renderedSwath_frame
  have hen' : (s.diffedSwath l).renderedSwath.schedEn = false := by rw [hframe]; exact hen
  have hact' : (s.diffedSwath l).renderedSwath.renderActive = false := by rw [hframe]; exact hact
  refine ⟨_, _, _, _, exec_diffSwath_inside hen hact hmax heven, exec_swathRender_direct hen hact,
    exec_diffSwath_inside hen' hact' hmax heven, hblank, readsInto_opsIsBlank.answers _, ?result⟩
  exact congrArg (fun o => u32OfBit (isBlank o)) hblank

end Sys2Proof.Machine
end

section
/-! PROOF. Nothing but a row commit or an exchange of roles changes the live buffer (`41_diff_engine.md` R141). -/

namespace Sys2Proof.Machine

open Sys2Proof

/-- The physical buffer that plays live (`00_scope.md` R14). -/
def State.liveBuf (s : State) : PixBuf := s.pixBuf s.lv

theorem State.pixel_lv (s : State) (c r : Nat) : s.pixel s.lv c r = (PixBuf.read s.liveBuf c).getLsbD r := rfl

/-- The same physical buffer is live, with the same content. -/
structure SameLive (s t : State) : Prop where
  sh : t.sh = s.sh
  liveBuf : t.liveBuf = s.liveBuf

theorem SameLive.pixels {s t : State} (h : SameLive s t) :
    t.sh = s.sh ∧ ∀ c r, t.pixel t.lv c r = s.pixel s.lv c r :=
  ⟨h.sh, fun c r => by rw [State.pixel_lv, State.pixel_lv, h.liveBuf]⟩

theorem State.pixBuf_pixWrite_of_ne (s : State) {b b' : Bool} (h : b' ≠ b) (c : Nat) (v : Column) :
    (s.pixWrite b c v).pixBuf b' = s.pixBuf b' := by
  obtain rfl := Bool.eq_not_of_ne h
  cases b <;> rfl

theorem State.pixBuf_pixClear_of_ne (s : State) {b b' : Bool} (h : b' ≠ b) :
    (s.pixClear b).pixBuf b' = s.pixBuf b' := by
  obtain rfl := Bool.eq_not_of_ne h
  cases b <;> rfl

theorem State.poke_sameLive (s : State) (c r : Nat) (v : Bool) : SameLive s (s.poke c r v) :=
  ⟨rfl, s.pixBuf_pixWrite_of_ne s.lv_ne_sh c _⟩

theorem State.pixClear_sameLive (s : State) : SameLive s (s.pixClear s.sh) :=
  ⟨rfl, s.pixBuf_pixClear_of_ne s.lv_ne_sh⟩

/-! ### Commands -/

theorem RaisesFault.sameLive {i : Instr} {s t : State} (h : RaisesFault i s t) : SameLive s t := by
  obtain ⟨k, rfl⟩ := h
  exact ⟨rfl, rfl⟩

/-- Of the commands that are no gated writers, only the ACQ_SAMPLE that runs a tick reaches live. -/
theorem CommandEffect.sameLive {s t : State} {i : Instr} (h : CommandEffect s i t) (hi : isGatedWriter i = false)
    (hquiet : countsSamples s = true → s.tickcnt.toNat + 1 = tickSamplesOf s.cfg → ∀ v, i ≠ .acqSample v) :
    SameLive s t := by
  cases h with
  | plane i hg hwriter => exact absurd (hwriter.symm.trans hi) nofun
  | acquire v | count v =>
    rw [State.acquire_eq]
    exact ⟨rfl, rfl⟩
  | tick v hc hn => exact absurd rfl (hquiet hc hn v)
  | _ => exact ⟨rfl, rfl⟩

/-- Of the gated writers, the pixel writers work on shadow, and RING_PUSH and DIFF_SWATH write no pixel. -/
theorem exec_sameLive {i : Instr} {s t : State} (h : exec i s = .next t) (hrender : i ≠ .swathRender)
    (hswap : i ≠ .pxSwap)
    (hquiet : countsSamples s = true → s.tickcnt.toNat + 1 = tickSamplesOf s.cfg → ∀ v, i ≠ .acqSample v) :
    SameLive s t := by
  cases i with
  | swathRender => exact absurd rfl hrender
  | pxSwap => exact absurd rfl hswap
  | ringPush v =>
    obtain ⟨-, he⟩ | hf := gatedWriter_effect h
    · cases he
      exact ⟨rfl, rfl⟩
    · exact hf.sameLive
  | pxClear =>
    obtain ⟨-, he⟩ | hf := gatedWriter_effect h
    · cases he
      exact ⟨s.pixClear_sameLive.sh, s.pixClear_sameLive.liveBuf⟩
    · exact hf.sameLive
  | pxPoke c r v =>
    obtain ⟨-, hchecked⟩ | hf := gatedWriter_effect h
    · obtain ⟨-, rfl⟩ | hf := checked_next hchecked
      · have hpoke := s.poke_sameLive c.toNat r.toNat v
        exact ⟨hpoke.sh, hpoke.liveBuf⟩
      · exact hf.sameLive
    · exact hf.sameLive
  | diffSwath l =>
    obtain ⟨-, hchecked⟩ | hf := gatedWriter_effect h
    · obtain ⟨-, rfl⟩ | hf := checked_next hchecked
      · exact ⟨rfl, rfl⟩
      · exact hf.sameLive
    · exact hf.sameLive
  | _ =>
    obtain he | hf := exec_next_cases h
    · exact he.sameLive rfl hquiet
    · exact hf.sameLive

/-! ### Micro-steps -/

/-- COLUMN_FILL draws into shadow (`44_render_scheduler.md` R206). -/
theorem State.columnFillStep_sameLive (s : State) : SameLive s s.columnFillStep := by
  unfold State.columnFillStep
  split
  case isTrue => exact ⟨rfl, rfl⟩
  case isFalse =>
    have hdraw : SameLive s (s.drawColumn s.schedCol.toNat) := s.poke_sameLive _ _ _
    exact ⟨hdraw.sh, hdraw.liveBuf⟩

theorem State.diffStep_sameLive (s : State) : SameLive s s.diffStep := by
  unfold State.diffStep
  dsimp only
  split <;> exact ⟨rfl, rfl⟩

/-- Of the flush's steps ROW_WR's alone commits (`44_render_scheduler.md` R214). -/
theorem State.flushStep_sameLive {s : State} (hrow : s.flushPhase = .rowWr → s.abort = true) :
    SameLive s s.flushStep := by
  obtain ⟨-, h⟩ | ⟨-, h⟩ | ⟨-, -, -, h⟩ | ⟨-, -, h⟩ | ⟨-, -, h⟩ | ⟨-, -, h⟩ | ⟨-, -, h⟩ | ⟨hp, ha, -⟩ | ⟨-, -, h⟩ :=
    s.flushStep_cases
  case inl => exact h ▸ s.diffStep_sameLive
  case inr.inr.inr.inr.inr.inr.inr.inl => exact absurd (ha.symm.trans (hrow hp)) nofun
  all_goals
    rw [h]
    exact ⟨rfl, rfl⟩

theorem State.renderStep_sameLive {s : State} (hdone : s.renderActive = true → s.schedState ≠ .frameDone)
    (hrow : s.renderActive = true → s.schedState = .swathFlush → s.flushPhase = .rowWr → s.abort = true) :
    SameLive s s.renderStep := by
  obtain ⟨-, h⟩ | ⟨-, -, h⟩ | ⟨-, -, h⟩ | ⟨-, -, h⟩ | ⟨ha, hst, h⟩ | ⟨ha, hst, h⟩ :=
    s.renderStep_cases <;> rw [h]
  · exact ⟨rfl, rfl⟩
  · exact ⟨rfl, rfl⟩
  · exact ⟨rfl, rfl⟩
  · exact s.columnFillStep_sameLive
  · exact State.flushStep_sameLive (hrow ha hst)
  · exact absurd hst (hdone ha)

/-- Settles O18, by the cases of a command and of a render step. -/
theorem liveChangesOnlyByCommitOrSwap : Obligations.LiveChangesOnlyByCommitOrSwap :=
  ⟨fun _ _ _ h hrender hswap hquiet => (exec_sameLive h hrender hswap hquiet).pixels,
    fun _ hdone hrow => (State.renderStep_sameLive hdone hrow).pixels⟩

end Sys2Proof.Machine
end

section
/-! PROOF. The sample ring: RING_PUSH and RING_AT, whole turns of the ring, and the history of pushes that a reader finds
behind CURSOR. -/

namespace Sys2Proof.Machine

open Sys2Proof

/-! ### Indices modulo CAPACITY -/

/-- Two numbers have the same index exactly when whole turns lie between them (`42_sample_ring.md` R160). -/
theorem normalize_eq_iff (c : Config) (x y : Int) : normalize c x = normalize c y ↔ x ≡ y [ZMOD capacityOf c] := by
  have hcap : (capacityOf c : Int) ≠ 0 := by have := (capacityOf_bounds c).1; omega
  have hx := Int.emod_nonneg x hcap
  have hy := Int.emod_nonneg y hcap
  unfold normalize Int.ModEq
  omega

/-- A number that is an index already is its own index. -/
theorem normalize_natCast {c : Config} {n : Nat} (h : n < capacityOf c) : normalize c n = n := by
  rw [normalize, ← Int.natCast_mod, Int.toNat_natCast, Nat.mod_eq_of_lt h]

/-- Offsets that whole turns separate read the same sample from every base. -/
theorem State.ringReadFrom_congr (s : State) (b : RingIndex) {x y : Int} (h : x ≡ y [ZMOD capacityOf s.cfg]) :
    s.ringReadFrom b x = s.ringReadFrom b y :=
  congrArg (Memory.read s.ring) ((normalize_eq_iff _ _ _).2 (h.add_left _))

/-- Settles O21: the two offsets are congruent modulo CAPACITY. -/
theorem wholeTurnsReadTheSameSample : Obligations.WholeTurnsReadTheSameSample := fun s b k m _ =>
  s.ringReadFrom_congr b <| Int.modEq_iff_dvd.2 ⟨m, by ring⟩

/-! ### The two commands -/

theorem State.read_ringPush {s : State} (hwf : Memory.wf s.ring = true) (v : Sample) (i : Nat) :
    Memory.read (s.ringPush v).ring i = if i = (s.ringPush v).cursor.toNat then v else Memory.read s.ring i := by
  rw [s.ringPush_cursor_toNat]
  exact Memory.read_write hwf _ v i

/-- Settles O19: gated it is BUSY, and in direct use it is the push. -/
theorem ringPushStoresTheSample : Obligations.RingPushStoresTheSample := fun s v =>
  ⟨fun hg => gatedWriter_busy _ hg _, fun hen hact hwf =>
    ⟨(s.ringPush v).setResult 0#32, gatedWriter_direct _ hen hact _, s.ringPush_cursor_toNat v, State.read_ringPush hwf v,
      rfl⟩⟩

theorem u32OfSample_eq_ofNat (v : Sample) : u32OfSample v = BitVec.ofNat 32 v.toNat :=
  BitVec.eq_of_toNat_eq (by simp [u32OfSample])

theorem u32OfSample_toNat (v : Sample) : (u32OfSample v).toNat = v.toNat :=
  BitVec.toNat_setWidth_of_le (by decide)

/-- Settles O20: RING_AT is a read, and its value is the spec's number. -/
theorem ringAtReadsFromTheCursor : Obligations.RingAtReadsFromTheCursor := by
  intro s o
  rw [(readsInto_ringAt o).answers, u32OfSample_eq_ofNat]
  rfl

/-! ### Reading behind CURSOR -/

theorem State.ringPush_cursor_lt (s : State) (v : Sample) : (s.ringPush v).cursor.toNat < capacityOf s.cfg := by
  rw [s.ringPush_cursor_toNat]
  exact Nat.mod_lt _ (by have := (capacityOf_bounds s.cfg).1; omega)

/-- CURSOR after a push is the next index, up to a whole turn. -/
theorem State.ringPush_cursor_modEq (s : State) (v : Sample) :
    ((s.ringPush v).cursor.toNat : Int) ≡ s.cursor.toNat + 1 [ZMOD capacityOf s.cfg] := by
  rw [s.ringPush_cursor_toNat, Int.natCast_mod]
  exact Int.mod_modEq _ _

/-- The sample pushed last is read at offset 0. -/
theorem State.ringReadFrom_ringPush_zero {s : State} (hwf : Memory.wf s.ring = true) (v : Sample) :
    (s.ringPush v).ringReadFrom (s.ringPush v).cursor 0 = v := by
  have hindex : normalize (s.ringPush v).cfg ((s.ringPush v).cursor.toNat + 0) = (s.ringPush v).cursor.toNat := by
    rw [add_zero]
    exact normalize_natCast (s.ringPush_cursor_lt v)
  rw [State.ringReadFrom, State.read_ringPush hwf, if_pos hindex]

/-- A push moves every older sample of the ring back by one offset. -/
theorem State.ringReadFrom_ringPush_succ {s : State} (hwf : Memory.wf s.ring = true) (v : Sample) {k : Nat}
    (hk : k + 1 < capacityOf s.cfg) :
    (s.ringPush v).ringReadFrom (s.ringPush v).cursor (-((k + 1 : Nat) : Int)) =
      s.ringReadFrom s.cursor (-(k : Int)) := by
  have hpushed := s.ringPush_cursor_modEq v
  have hindex : normalize s.cfg ((s.ringPush v).cursor.toNat + -((k + 1 : Nat) : Int)) =
      normalize s.cfg (s.cursor.toNat + -(k : Int)) := by
    refine (normalize_eq_iff _ _ _).2 ((hpushed.add_right _).trans (congrArg (· % _) ?_))
    push_cast
    ring
  have hother : normalize s.cfg ((s.ringPush v).cursor.toNat + -((k + 1 : Nat) : Int)) ≠
      (s.ringPush v).cursor.toNat := by
    intro heq
    have hturns := ((normalize_eq_iff _ _ _).1 (heq.trans (normalize_natCast (s.ringPush_cursor_lt v)).symm)).dvd
    have hle := Int.le_of_dvd (by omega) hturns
    omega
  rw [State.ringReadFrom, State.read_ringPush hwf, State.ringPush_cfg, if_neg hother, hindex]
  rfl

/-- The block holds the samples `recent`, the latest first, behind CURSOR, and zeros further back
(`42_sample_ring.md` R166). -/
structure HoldsPushes (c : Config) (s : State) (recent : List Sample) : Prop where
  cfg : s.cfg = c
  ringWf : Memory.wf s.ring = true
  cursor : s.cursor.toNat = recent.length % capacityOf c
  reads : ∀ j : Nat, j < capacityOf c → s.ringReadFrom s.cursor (-(j : Int)) = recent.getD j 0#16

theorem HoldsPushes.resetWith (c : Config) (p : List PortEvent) : HoldsPushes c (State.resetWith c p) [] where
  cfg := rfl
  ringWf := State.resetWith_ring_wf c p
  cursor := (Nat.zero_mod _).symm
  reads _ _ := rfl

theorem HoldsPushes.ringPush {c : Config} {s : State} {recent : List Sample} (h : HoldsPushes c s recent) (v : Sample) :
    HoldsPushes c (s.ringPush v) (v :: recent) := by
  obtain ⟨rfl, hwf, hcursor, hreads⟩ := h
  refine ⟨rfl, Memory.wf_write hwf _ v, ?cursor, fun j hj => ?reads⟩
  case cursor => rw [s.ringPush_cursor_toNat, hcursor, Nat.mod_add_mod, List.length_cons]
  case reads =>
    cases j with
    | zero => exact State.ringReadFrom_ringPush_zero hwf v
    | succ k =>
      rw [State.ringReadFrom_ringPush_succ hwf v hj, List.getD_cons_succ]
      exact hreads k (by omega)

theorem HoldsPushes.foldl_ringPush {c : Config} : ∀ {vs : List Sample} {s : State} {recent : List Sample},
    HoldsPushes c s recent → HoldsPushes c (vs.foldl State.ringPush s) (vs.reverse ++ recent)
  | [], _, _, h => h
  | v :: vs, _, _, h => by
    rw [List.reverse_cons, List.append_assoc]
    exact (h.ringPush v).foldl_ringPush

/-- RING_AT takes every offset back to the oldest entry as it is: CAPACITY is below 2^31. -/
theorem s32_ofInt_neg {c : Config} {j : Nat} (h : j < capacityOf c) : s32 (BitVec.ofInt 32 (-(j : Int))) = -(j : Int) := by
  have hcap := (capacityOf_bounds c).2
  exact BitVec.toInt_ofInt_eq_self (by decide) (by omega) (by omega)

theorem getD_reverse_eq_ite (vs : List Sample) (j : Nat) :
    vs.reverse.getD j 0#16 = if j < vs.length then vs.getD (vs.length - 1 - j) 0#16 else 0#16 := by
  split
  case isTrue h => exact congrFun (List.getD_reverse j h) _
  case isFalse h => exact List.getD_eq_default _ _ (by simpa using h)

/-- Settles O22: every push puts its sample in front of the history that reset leaves empty. -/
theorem pushHistoryIsReadBack : Obligations.PushHistoryIsReadBack := by
  intro c p vs _
  have hheld := (HoldsPushes.resetWith c p).foldl_ringPush (vs := vs)
  rw [List.append_nil] at hheld
  refine ⟨hheld.cursor.trans (by rw [List.length_reverse]), fun j hj => ⟨_, (readsInto_ringAt _).answers _, ?result⟩⟩
  rw [State.setResult_result, u32OfSample_toNat, s32_ofInt_neg hj, hheld.reads j hj, getD_reverse_eq_ite]
  exact apply_ite BitVec.toNat _ _ _

end Sys2Proof.Machine
end

section
/-! PROOF. The zoom mapping: the clamped request, the distance of a column and its offset, and how both follow the
column and the zoom (`43_zoom_resampler.md`). -/

namespace Sys2Proof.Machine

open Sys2Proof

/-! ### The clamped request -/

/-- ZOOM holds the clamped request itself: the legal range lies in the range of s32. -/
theorem s32_clampZoom (c : Config) (v : Int) : s32 (u32OfInt (clampZoom c v)) = clampZoom c v := by
  have hrange := zoomRange_bounds c
  have hclamp : zoomLow c ≤ clampZoom c v ∧ clampZoom c v ≤ zoomHigh c := clampInt_bounds v (by omega)
  exact s32_u32OfInt (by omega) (by omega)

/-- Settles O23: the register holds the clamped request, which is legal. -/
theorem zoomSetClampsTheRequest : Obligations.ZoomSetClampsTheRequest := fun s v =>
  ⟨_, rfl, s32_clampZoom s.cfg v.toInt, zoomLegal_clampZoom s.cfg v.toInt, rfl⟩

/-! ### The distance of a column -/

/-- Dist in UNSIGNED mode (`43_zoom_resampler.md` R182). -/
theorem dist_unsigned {c : Config} (h : signedZoom c = false) (z : Int) (col : Nat) : dist c z col = col * z := by
  simp [dist, h]

/-- Dist in SIGNED compress, with the identity at -1 as its first factor (`43_zoom_resampler.md` R183). -/
theorem dist_compress {c : Config} (h : signedZoom c = true) {z : Int} (hz : z ≤ -1) (col : Nat) :
    dist c z col = col * -z := by
  obtain rfl | hle : z = -1 ∨ z ≤ -2 := by omega
  · simp [dist, h, distSigned]
  · have hnot : ¬ 2 ≤ z := by omega
    simp [dist, h, distSigned, hnot, hle]

/-- Dist in SIGNED stretch, with the identity at 1 as its first factor (`43_zoom_resampler.md` R183). -/
theorem dist_stretch {c : Config} (h : signedZoom c = true) {z : Int} (hz : 1 ≤ z) (col : Nat) :
    dist c z col = col / z := by
  obtain rfl | hle : z = 1 ∨ 2 ≤ z := by omega
  · simp [dist, h, distSigned]
  · simp [dist, h, distSigned, hle]

/-- Dist at the signed factor 0, the identity (`43_zoom_resampler.md` R183). -/
theorem dist_signed_zero {c : Config} (h : signedZoom c = true) (col : Nat) : dist c 0 col = col := by
  simp [dist, h, distSigned]

/-- Outside SIGNED stretch a legal zoom multiplies the column by a factor from 1 to ZMAX. -/
theorem dist_eq_mul {c : Config} {z : Int} (hlo : zoomLow c ≤ z) (hhi : z ≤ zoomHigh c)
    (h : ¬ (signedZoom c = true ∧ 2 ≤ z)) : ∃ k : Int, 1 ≤ k ∧ k ≤ zMaxOf c ∧ ∀ col, dist c z col = col * k := by
  have hzmax := zMaxOf_bounds c
  cases hs : signedZoom c with
  | false =>
    simp only [zoomLow, zoomHigh, hs] at hlo hhi
    exact ⟨z, hlo, by simpa [zMaxOf, hs] using hhi, dist_unsigned hs z⟩
  | true =>
    have hle : z ≤ 1 := by have := not_and.1 h hs; omega
    obtain hneg | rfl | rfl : z ≤ -1 ∨ z = 0 ∨ z = 1 := by omega
    · simp only [zoomLow, hs, if_true] at hlo
      refine ⟨-z, by omega, ?_, dist_compress hs hneg⟩
      simp only [zMaxOf, hs, if_true]
      omega
    · exact ⟨1, le_rfl, by omega, fun col => by rw [dist_signed_zero hs, mul_one]⟩
    · exact ⟨1, le_rfl, by omega, fun col => by rw [dist_stretch hs le_rfl, Int.ediv_one, mul_one]⟩

/-- No column is ahead of the newest sample, nor further back than ZMAX samples per column. -/
theorem dist_bounds {c : Config} {z : Int} (hlo : zoomLow c ≤ z) (hhi : z ≤ zoomHigh c) (col : Nat) :
    0 ≤ dist c z col ∧ dist c z col ≤ col * zMaxOf c := by
  have hzmax := zMaxOf_bounds c
  by_cases hst : signedZoom c = true ∧ 2 ≤ z
  · obtain ⟨hs, hz⟩ := hst
    rw [dist_stretch hs (by omega)]
    refine ⟨Int.ediv_nonneg (by omega) (by omega), ?_⟩
    calc (col : Int) / z ≤ col := Int.ediv_le_self _ (by omega)
      _ ≤ col * zMaxOf c := le_mul_of_one_le_right (by omega) (by omega)
  · obtain ⟨k, hk1, hkmax, hdist⟩ := dist_eq_mul hlo hhi hst
    rw [hdist]
    exact ⟨Int.mul_nonneg (by omega) (by omega), Int.mul_le_mul_of_nonneg_left hkmax (by omega)⟩

/-- Outside SIGNED stretch every further column is further back (`43_zoom_resampler.md` R186). -/
theorem dist_lt_dist {c : Config} {z : Int} (hlo : zoomLow c ≤ z) (hhi : z ≤ zoomHigh c)
    (h : ¬ (signedZoom c = true ∧ 2 ≤ z)) {a b : Nat} (hab : a < b) : dist c z a < dist c z b := by
  obtain ⟨k, hk1, -, hdist⟩ := dist_eq_mul hlo hhi h
  rw [hdist, hdist]
  exact Int.mul_lt_mul_of_pos_right (by omega) (by omega)

/-- No further column is nearer (`43_zoom_resampler.md` R186, R187). -/
theorem dist_mono {c : Config} {z : Int} (hlo : zoomLow c ≤ z) (hhi : z ≤ zoomHigh c) {a b : Nat} (hab : a ≤ b) :
    dist c z a ≤ dist c z b := by
  by_cases hst : signedZoom c = true ∧ 2 ≤ z
  · obtain ⟨hs, hz⟩ := hst
    rw [dist_stretch hs (by omega), dist_stretch hs (by omega)]
    exact Int.ediv_le_ediv (by omega) (by omega)
  · obtain rfl | hlt := hab.eq_or_lt
    · exact le_rfl
    · exact (dist_lt_dist hlo hhi hst hlt).le

/-! ### The offset of a column -/

/-- What OFFSET_POLICY multiplies a distance by: DIVISOR under FRAME_RELATIVE (`43_zoom_resampler.md` R184). -/
def offsetScale (c : Config) : Int := if c.offsetPolicy = .frameRelative then (divisorOf c : Int) else 1

theorem offsetScale_bounds (c : Config) : 1 ≤ offsetScale c ∧ offsetScale c ≤ divisorOf c := by
  have := divisorOf_bounds c
  unfold offsetScale
  split <;> omega

/-- Offset under both policies (`43_zoom_resampler.md` R184). -/
theorem zoomOffset_eq (c : Config) (z : Int) (col : Nat) : zoomOffset c z col = -(dist c z col * offsetScale c) := by
  cases h : c.offsetPolicy <;> simp [zoomOffset, offsetScale, h]

/-- Offsets are ordered against the distances. -/
theorem zoomOffset_le_iff (c : Config) (y z : Int) (a b : Nat) :
    zoomOffset c z b ≤ zoomOffset c y a ↔ dist c y a ≤ dist c z b := by
  have hpos : 0 < offsetScale c := (offsetScale_bounds c).1
  rw [zoomOffset_eq, zoomOffset_eq, neg_le_neg_iff, mul_le_mul_iff_left₀ hpos]

theorem zoomOffset_lt_iff (c : Config) (y z : Int) (a b : Nat) :
    zoomOffset c z b < zoomOffset c y a ↔ dist c y a < dist c z b := by
  rw [← not_le, ← not_le, zoomOffset_le_iff]

/-- A column of the screen is at or behind its base, by less than CAPACITY: 127 columns of at most ZMAX samples, times
at most DIVISOR (`43_zoom_resampler.md` R184). -/
theorem zoomOffset_bounds {c : Config} {z : Int} (hlo : zoomLow c ≤ z) (hhi : z ≤ zoomHigh c) {col : Nat}
    (hcol : col < 128) : zoomOffset c z col ≤ 0 ∧ -(zoomOffset c z col) < capacityOf c := by
  obtain ⟨hnear, hfar⟩ := dist_bounds hlo hhi col
  obtain ⟨hscale, hdiv⟩ := offsetScale_bounds c
  have hzmax : (0 : Int) < zMaxOf c := by have := zMaxOf_bounds c; omega
  rw [zoomOffset_eq, neg_neg]
  refine ⟨neg_nonpos.2 (Int.mul_nonneg hnear (by omega)), ?_⟩
  calc dist c z col * offsetScale c
      ≤ col * zMaxOf c * divisorOf c := mul_le_mul hfar hdiv (by omega) (by positivity)
    _ < 128 * zMaxOf c * divisorOf c := by gcongr <;> omega
    _ = capacityOf c := by simp only [capacityOf, numCols]; push_cast; ring

/-- Settles O25: the bounds on the distance, scaled by OFFSET_POLICY. -/
theorem offsetsStayWithinOneRotation : Obligations.OffsetsStayWithinOneRotation :=
  fun _ _ _ hlo hhi hcol => zoomOffset_bounds hlo hhi hcol

/-- Settles O26: the order of offsets is the converse order of distances, and equal quotients are equal distances. -/
theorem offsetsFallWithTheColumn : Obligations.OffsetsFallWithTheColumn := by
  refine fun c z a b hlo hhi hab _ => ⟨?falls, fun hst => ?strictly, fun hs hz hrun => ?constant⟩
  case falls => exact (zoomOffset_le_iff ..).2 (dist_mono hlo hhi hab.le)
  case strictly => exact (zoomOffset_lt_iff ..).2 (dist_lt_dist hlo hhi hst hab)
  case constant => rw [zoomOffset_eq, zoomOffset_eq, dist_stretch hs (by omega), dist_stretch hs (by omega), hrun]

/-! ### ZOOM_OFFSET -/

theorem colInRange_iff {col : Byte} : colInRange col = true ↔ col.toNat < 128 := decide_eq_true_iff

/-- Settles O24: past the screen a fault, and else a read of an offset that fits an s32. -/
theorem zoomOffsetReportsTheMapping : Obligations.ZoomOffsetReportsTheMapping := by
  refine fun s col => ⟨fun hout => ?outside, fun hcol ⟨hlo, hhi⟩ => ?inside⟩
  case outside => exact (if_neg (mt colInRange_iff.1 (by omega))).trans (faultOf_range _ s)
  case inside =>
    refine ⟨_, (readsInto_zoomOffset (colInRange_iff.2 hcol)).answers s, ?_, rfl⟩
    have hcap := capacityOf_bounds s.cfg
    have hbounds := zoomOffset_bounds hlo hhi hcol
    have hfits : s32 (u32OfInt (zoomOffset s.cfg (s32 s.zoom) col.toNat)) = zoomOffset s.cfg (s32 s.zoom) col.toNat :=
      s32_u32OfInt (by omega) (by omega)
    exact hfits.trans (zoomOffset_eq ..)

/-! ### The span of a frame -/

/-- The span of a frame is the scaled distance of its last column (`43_zoom_resampler.md` R187). -/
theorem frameSpan_eq (c : Config) (z : Int) : frameSpan c z = dist c z 127 * offsetScale c := by
  rw [frameSpan, zoomOffset_eq, neg_neg]

theorem frameSpan_lt_iff (c : Config) (y z : Int) : frameSpan c y < frameSpan c z ↔ dist c y 127 < dist c z 127 := by
  rw [frameSpan, frameSpan, neg_lt_neg_iff, zoomOffset_lt_iff]

/-- Stretching further shows less, up to the factor 13 that `00_scope.md` R10 allows. -/
theorem ediv_lt_ediv_of_stretch {y z : Int} (hy : 1 ≤ y) (hyz : y < z) (hz : z ≤ 13) : (127 : Int) / z < 127 / y := by
  have hnext : (127 : Int) / (y + 1) < 127 / y := by
    have hmax : y ≤ 12 := by omega
    interval_cases y <;> decide
  have hrest : (127 : Int) / z ≤ 127 / (y + 1) := by
    have hquot : (0 : Int) ≤ 127 / z := Int.ediv_nonneg (by omega) (by omega)
    refine Int.le_ediv_of_mul_le (by omega) ?_
    calc (127 : Int) / z * (y + 1) ≤ 127 / z * z := Int.mul_le_mul_of_nonneg_left hyz hquot
      _ ≤ 127 := Int.ediv_mul_le _ (by omega)
  exact hrest.trans_lt hnext

/-- Settles O27: spans are ordered as the distances of the last column, which each mode's formula gives. -/
theorem spanFollowsTheZoom : Obligations.SpanFollowsTheZoom := by
  intro c y z hyz
  refine ⟨fun hs _ => ?unsigned, fun hs => ?unsignedSpan, fun hs hz => ?compress, fun hs hy hz => ?stretch,
    fun hs hz _ => ?stretchSpan, fun hlo hhi a b hab _ => ?columns⟩
  case unsigned =>
    rw [frameSpan_lt_iff, dist_unsigned hs, dist_unsigned hs]
    omega
  case unsignedSpan =>
    rw [frameSpan_eq, dist_unsigned hs]
    rfl
  case compress =>
    rw [frameSpan_lt_iff, dist_compress hs hz, dist_compress hs (by omega)]
    omega
  case stretch =>
    rw [frameSpan_lt_iff, dist_stretch hs (by omega), dist_stretch hs hy]
    exact ediv_lt_ediv_of_stretch hy hyz hz
  case stretchSpan =>
    rw [frameSpan_eq, dist_stretch hs hz]
    rfl
  case columns => exact (zoomOffset_le_iff ..).2 (dist_mono hlo hhi hab)

end Sys2Proof.Machine
end

section
/-! PROOF. RenderStep one micro-step at a time: the step taken in each micro-state, and what TickStart, COLUMN_FILL,
DIFF, the bus phases and FRAME_DONE do (`44_render_scheduler.md` R201 to R217). -/

namespace Sys2Proof.Machine

open Sys2Proof

/-! ### The step taken in a micro-state -/

theorem State.renderStep_of_inactive {s : State} (hact : s.renderActive = false) : s.renderStep = s.tickStart := by
  simp only [State.renderStep, hact, Bool.false_eq_true, if_false]

theorem State.renderStep_of_frameStart {s : State} (hact : s.renderActive = true) (hst : s.schedState = .frameStart) :
    s.renderStep = s.frameStartStep := by
  simp only [State.renderStep, hact, hst, if_true]

theorem State.renderStep_of_columnFill {s : State} (hact : s.renderActive = true) (hst : s.schedState = .columnFill) :
    s.renderStep = s.columnFillStep := by
  simp only [State.renderStep, hact, hst, if_true]

theorem State.renderStep_of_swathFlush {s : State} (hact : s.renderActive = true) (hst : s.schedState = .swathFlush) :
    s.renderStep = s.flushStep := by
  simp only [State.renderStep, hact, hst, if_true]

theorem State.flushStep_of_diff {s : State} (hp : s.flushPhase = .diff) : s.flushStep = s.diffStep := by
  rw [State.flushStep, hp]

theorem State.flushStep_of_busCmd {s : State} (hp : s.flushPhase = .busCmd) : s.flushStep = s.busCmdStep := by
  rw [State.flushStep, hp]

/-- Past BUS_CMD a release remembered is answered first (`44_render_scheduler.md` R203, R208). -/
theorem State.flushStep_of_abort {s : State} (hp : pastBusCmd s.flushPhase = true) (ha : s.abort = true) :
    s.flushStep = s.abortStep := by
  unfold State.flushStep
  rw [ha]
  cases hphase : s.flushPhase with
  | diff | busCmd => rw [hphase] at hp; exact absurd hp nofun
  | _ => rfl

/-- The step of a phase of the flush, no release remembered (`44_render_scheduler.md` R207 to R215). -/
def State.phaseStep (s : State) : FlushPhase → State
  | .diff => s.diffStep
  | .busCmd => s.busCmdStep
  | .busSelCol => s.busSelColStep
  | .rowCmd => s.rowCmdStep
  | .rowSel => s.rowSelStep
  | .rowDph => s.rowDphStep
  | .rowWr => s.rowWrStep
  | .busEnd => s.busEndStep

theorem State.flushStep_of_no_abort {s : State} {p : FlushPhase} (hp : s.flushPhase = p) (ha : s.abort = false) :
    s.flushStep = s.phaseStep p := by
  unfold State.flushStep
  cases p <;> simp only [hp, ha, Bool.false_eq_true, if_false, State.phaseStep]

/-! ### Turns of the RENDER agent -/

theorem renderTurn_of_enabled {s : State} (hen : s.renderEnabled = true) (hline : s.renderHasNoLine = false) :
    renderTurn s = .next s.renderStep := by
  simp only [renderTurn, hen, hline, if_true, Bool.false_eq_true, if_false]

theorem renderTurn_of_disabled {s : State} (hen : s.renderEnabled = false) : renderTurn s = .next s := by
  simp only [renderTurn, hen, Bool.false_eq_true, if_false]

/-- A tick in progress goes on with the agent's turn (`44_render_scheduler.md` R218). -/
theorem renderTurn_of_active {s : State} (hd : s.cfg.schedMode = .dualTimer) (hact : s.renderActive = true)
    (hst : s.schedState ≠ .idle) : renderTurn s = .next s.renderStep :=
  renderTurn_of_enabled (by simp [State.renderEnabled, hd, hact]) (by simp [State.renderHasNoLine, hst])

/-- A tick requested starts with the agent's turn (`44_render_scheduler.md` R218). -/
theorem renderTurn_of_request {s : State} (hd : s.cfg.schedMode = .dualTimer) (hact : s.renderActive = false)
    (hreq : s.renderReq = true) (hen : s.schedEn = true) : renderTurn s = .next s.renderStep :=
  renderTurn_of_enabled (by simp [State.renderEnabled, hd, hreq, hen]) (by simp [State.renderHasNoLine, hact])

/-- Settles O6: the agent has a step while a tick runs or is requested with the scheduler enabled, and none in the
single-timer configuration. -/
theorem renderAgentStepsWhenEnabled : Obligations.RenderAgentStepsWhenEnabled := by
  refine ⟨fun _ => step_of_nil, fun _ _ => step_of_cons, fun s hd h => ?steps, fun s h => ?rests⟩
  case steps =>
    obtain ⟨hact, hst⟩ | ⟨hact, hreq, hen⟩ := h
    · exact renderTurn_of_active hd hact hst
    · exact renderTurn_of_request hd hact hreq hen
  case rests =>
    apply renderTurn_of_disabled
    obtain hm | ⟨hact, hreq | hen⟩ := h
    · simp [State.renderEnabled, hm]
    · simp [State.renderEnabled, hact, hreq]
    · simp [State.renderEnabled, hact, hen]

/-! ### The request and the start of a tick -/

theorem faultOf_mode (i : Instr) (s : State) : faultOf i .mode s = .next (afterIllegal 3#8 i s) := by
  simp [faultOf, State.raiseFault, afterIllegal, firstFault, setsErrIllegal, setsErrRange, setsErrBusy, faultNumber]

/-- Settles O33: RENDER_TICK's meaning by SCHED_MODE. -/
theorem renderTickRequestsOneTick : Obligations.RenderTickRequestsOneTick := by
  refine fun s => ⟨fun hd => ?dual, fun hm => ?single⟩
  case dual =>
    have hreq : (s.renderReq || s.schedEn) = if s.schedEn then true else s.renderReq := by cases s.schedEn <;> simp
    simp only [exec, execRenderTick, hd, hreq]
    rfl
  case single =>
    simp only [exec, execRenderTick, hm]
    exact faultOf_mode .renderTick s

/-- The budget of a tick is COLS_PER_TICK, which TICK_LEFT holds (`10_state.md` R37). -/
theorem State.tickStart_tickLeft_toNat (s : State) : s.tickStart.tickLeft.toNat = colsPerTickOf s.cfg := by
  rw [State.tickStart_tickLeft, BitVec.toNat_ofNat]
  obtain ⟨-, hc⟩ | ⟨-, hc⟩ := colsPerTickOf_eq s.cfg <;> rw [hc]

/-- Settles O34. -/
theorem tickAndFrameStart : Obligations.TickAndFrameStart := fun s =>
  ⟨fun hact _ _ => ⟨_, State.renderStep_of_inactive hact, s.tickStart_tickLeft_toNat, rfl⟩,
    State.renderStep_of_frameStart⟩

/-! ### COLUMN_FILL -/

/-- SampleToRow(v) in natural numbers, whose subtraction stops at 0 (`44_render_scheduler.md` R201). -/
theorem sampleToRow_eq (c : Config) (v : Sample) : sampleToRow c v = 63 - v.toNat / rowScaleOf c := by
  unfold sampleToRow
  dsimp only
  generalize v.toNat / rowScaleOf c = q
  split <;> omega

theorem sampleToRow_lt (c : Config) (v : Sample) : sampleToRow c v < 64 := by
  rw [sampleToRow_eq]
  exact Nat.lt_of_le_of_lt (Nat.sub_le ..) (Nat.lt_succ_self 63)

theorem State.columnBase_toNat (s : State) :
    s.columnBase.toNat = if s.cfg.offsetPolicy = .frameRelative then s.base.toNat else s.cursor.toNat := by
  unfold State.columnBase
  cases s.cfg.offsetPolicy <;> rfl

/-- The drawing of a column lights one pixel of shadow (`44_render_scheduler.md` R206). -/
theorem State.pixel_drawColumn (s : State) {col : Nat} (hcol : col < 128) (b : Bool) (c r : Nat) :
    (s.drawColumn col).pixel b c r =
      if b = s.sh ∧ c = col ∧ r = sampleToRow s.cfg (s.columnSample col) then true else s.pixel b c r :=
  s.pixel_poke hcol (sampleToRow_lt _ _) true b c r

/-- A column filled with budget left (`44_render_scheduler.md` R206). -/
theorem State.columnFillStep_of_budget {s : State} (hbudget : s.tickLeft ≠ 0#2) :
    s.columnFillStep =
      { s.drawColumn s.schedCol.toNat with
        schedCol := s.schedCol + 1#8
        tickLeft := s.tickLeft - 1#2
        schedState := if s.schedCol.toNat % 2 = 1 then .swathFlush else s.schedState
        flushPhase := if s.schedCol.toNat % 2 = 1 then .diff else s.flushPhase } :=
  if_neg hbudget

theorem State.pixel_columnFillStep {s : State} (hbudget : s.tickLeft ≠ 0#2) (hcol : s.schedCol.toNat < 128) (b : Bool)
    (c r : Nat) :
    s.columnFillStep.pixel b c r =
      if b = s.sh ∧ c = s.schedCol.toNat ∧ r = sampleToRow s.cfg (s.columnSample s.schedCol.toNat) then true
      else s.pixel b c r := by
  rw [← s.pixel_drawColumn hcol, State.columnFillStep_of_budget hbudget]
  exact State.pixel_congr rfl rfl b c r

/-- Settles O35: no budget, or the drawing of the column at SCHED_COL. -/
theorem columnFillDrawsOnePixel : Obligations.ColumnFillDrawsOnePixel := by
  intro s hact hst
  rw [State.renderStep_of_columnFill hact hst]
  refine ⟨fun hzero => if_pos hzero, fun hbudget hcol => ⟨_, rfl, fun b c r => ?pixels, ?fields⟩⟩
  case pixels =>
    rw [State.pixel_columnFillStep hbudget hcol, sampleToRow_eq, State.columnSample, State.ringReadFrom,
      s.columnBase_toNat]
    rfl
  case fields =>
    rw [State.columnFillStep_of_budget hbudget, hst]
    exact ⟨by bv_omega, by bv_omega, rfl, rfl, rfl⟩

/-! ### DIFF -/

/-- The end of a flush, with SCHED_COL read as a number (`44_render_scheduler.md` R216). -/
theorem State.afterFlush_eq (s : State) :
    s.afterFlush =
      { s with
        flushPhase := .diff
        schedState := if s.schedCol.toNat = 128 then .frameDone else .columnFill } := by
  simp only [State.afterFlush, BitVec.toNat_eq]
  rfl

/-- DiffStep on a swath that is blank: the flush ends with no bus event (`44_render_scheduler.md` R207, R216). -/
theorem State.diffStep_of_blank {s : State} (h : isBlank (s.diffSwath s.flushLeft) = true) :
    s.diffStep = (s.setOps (s.diffSwath s.flushLeft) (BitVec.ofNat 7 s.flushLeft)).afterFlush :=
  if_pos h

/-- DiffStep on a swath that is not blank (`44_render_scheduler.md` R207). -/
theorem State.diffStep_of_not_blank {s : State} (h : ¬ isBlank (s.diffSwath s.flushLeft) = true) :
    s.diffStep =
      { s.setOps (s.diffSwath s.flushLeft) (BitVec.ofNat 7 s.flushLeft) with flushRow := 0#7, flushPhase := .busCmd } :=
  if_neg h

/-- Blank or not, DiffStep leaves the masks of the swath just filled in OPS. -/
theorem State.diffStep_ops (s : State) :
    s.diffStep.ops = s.diffSwath s.flushLeft ∧ s.diffStep.opsLeft = BitVec.ofNat 7 s.flushLeft := by
  by_cases h : isBlank (s.diffSwath s.flushLeft) = true
  · rw [State.diffStep_of_blank h]
    exact ⟨rfl, rfl⟩
  · rw [State.diffStep_of_not_blank h]
    exact ⟨rfl, rfl⟩

/-- Settles O36: the masks are DiffSwath's, and their blankness decides where the flush goes. -/
theorem diffStepPreparesOrSkipsTheSwath : Obligations.DiffStepPreparesOrSkipsTheSwath := by
  intro s hact hst hp _ hfirst hmax
  obtain ⟨hops, hleft⟩ := s.diffStep_ops
  rw [State.renderStep_of_swathFlush hact hst, State.flushStep_of_diff hp]
  refine ⟨_, rfl, hops ▸ masksOfSwath_diffSwath s s.flushLeft, ?left, ?next⟩
  case left =>
    rw [hleft, BitVec.toNat_ofNat, State.flushLeft]
    omega
  case next =>
    have hblank_iff := isBlank_iff_masks s.diffStep.ops
    split
    case isTrue hmasks =>
      rw [State.diffStep_of_blank (hops ▸ hblank_iff.2 hmasks), State.afterFlush_eq]
      rfl
    case isFalse hmasks =>
      rw [State.diffStep_of_not_blank (hops ▸ mt hblank_iff.1 hmasks)]
      rfl

/-! ### The bus phases -/

/-- Settles O37. -/
theorem abortStepRestartsTheSwath : Obligations.AbortStepRestartsTheSwath := fun _ hact hst hp ha =>
  (State.renderStep_of_swathFlush hact hst).trans (State.flushStep_of_abort hp ha)

/-- Settles O38: the step of each phase emits its one word. -/
theorem busStepsEmitInOrder : Obligations.BusStepsEmitInOrder := by
  intro s hact hst
  rw [State.renderStep_of_swathFlush hact hst]
  refine ⟨State.flushStep_of_busCmd, State.flushStep_of_no_abort, fun hp ha hrow => ?rowSel,
    State.flushStep_of_no_abort, fun hp ha => ?busEnd⟩
  case rowSel =>
    rw [State.flushStep_of_no_abort hp ha, ← busWord_selSingleRow hrow]
    rfl
  case busEnd =>
    rw [State.flushStep_of_no_abort hp ha, State.phaseStep, State.busEndStep, State.afterFlush_eq]
    rfl

/-- Where the flush stands after going to the next transmitted row from `r` on: at the least one, or at BUS_END
(`44_render_scheduler.md` R210). -/
theorem State.toRow_spec (s : State) (r : Nat) :
    (∀ q < 64, r ≤ q → q < (s.toRow r).flushRow.toNat → rowSent s.ops q = false) ∧
      ((r ≤ (s.toRow r).flushRow.toNat ∧ (s.toRow r).flushRow.toNat < 64 ∧
          rowSent s.ops (s.toRow r).flushRow.toNat = true ∧ (s.toRow r).flushPhase = .rowCmd) ∨
        ((s.toRow r).flushRow.toNat = 64 ∧ (s.toRow r).flushPhase = .busEnd)) := by
  have hrow : (s.toRow r).flushRow.toNat = nextRow s.ops r := by
    have hle := nextRow_le s.ops r
    rw [State.toRow_flushRow, BitVec.toNat_ofNat, Nat.mod_eq_of_lt (by omega)]
  rw [hrow, State.toRow_flushPhase]
  simp only [← rowAny_eq_rowSent]
  obtain ⟨hlt, hge, hany, hskip⟩ | ⟨h64, hnone⟩ := nextRow_spec s.ops r
  · exact ⟨fun q _ => hskip q, .inl ⟨hge, hlt, hany, if_pos hlt⟩⟩
  · exact ⟨fun q hq hr _ => hnone q hr hq, .inr ⟨h64, if_neg (by omega)⟩⟩

/-- ROW_WR's pixels are those of the row's commit (`44_render_scheduler.md` R214). -/
theorem State.pixel_rowWrStep {s : State} (heven : s.opsLeft.toNat % 2 = 0) (b : Bool) (c r : Nat) :
    s.rowWrStep.pixel b c r =
      if b = s.lv ∧ (c = s.opsLeft.toNat ∨ c = s.opsLeft.toNat + 1) ∧ r = s.flushRow.toNat then s.pixel s.sh c r
      else s.pixel b c r :=
  (s.emit (.write (rowByte s.ops s.flushRow.toNat))).pixel_commitRow (State.opsLeft_succ_lt heven) _ b c r

/-- Settles O39: each step emits its word and goes to the next transmitted row; ROW_WR's commit makes live agree with
shadow at its row. -/
theorem rowStepsSendAndCommit : Obligations.RowStepsSendAndCommit := by
  intro s hact hst ha heven
  rw [State.renderStep_of_swathFlush hact hst]
  refine ⟨fun hp => ?selCol, fun hp hrow => ?rowWr⟩
  case selCol =>
    obtain ⟨hskip, hnext⟩ := (s.emit (selSwath s.opsLeft.toNat)).toRow_spec 0
    refine ⟨s.busSelColStep, State.flushStep_of_no_abort hp ha, ?log,
      fun q hq => hskip q hq (Nat.zero_le q), hnext.imp_left And.right, rfl⟩
    case log =>
      rw [← busWord_selSwath s.opsLeft.isLt]
      rfl
  case rowWr =>
    obtain ⟨hskip, hnext⟩ := ((s.emit (.write (rowByte s.ops s.flushRow.toNat))).commitRow s.opsLeft.toNat
      s.flushRow.toNat).toRow_spec (s.flushRow.toNat + 1)
    refine ⟨s.rowWrStep, State.flushStep_of_no_abort hp ha, ?log, State.pixel_rowWrStep heven, hskip, hnext, rfl⟩
    case log =>
      rw [← busWord_rowByte]
      rfl

/-! ### FRAME_DONE -/

/-- What the clear policy leaves in the shadow (`44_render_scheduler.md` R217). -/
theorem State.pixRead_clearPerPolicy_sh (s : State) (c : Nat) :
    s.clearPerPolicy.pixRead s.sh c = if s.cfg.clearPolicy = .clearOnSwap then 0#64 else s.pixRead s.sh c := by
  unfold State.clearPerPolicy
  cases s.cfg.clearPolicy with
  | clearOnSwap => exact (s.pixRead_pixClear s.sh s.sh c).trans (if_pos rfl)
  | carry => rfl

/-- The clear policy is about the shadow: live stays as it is, column by column. -/
theorem State.pixRead_clearPerPolicy_lv (s : State) (c : Nat) : s.clearPerPolicy.pixRead s.lv c = s.pixRead s.lv c := by
  unfold State.clearPerPolicy
  cases s.cfg.clearPolicy with
  | clearOnSwap => exact (s.pixRead_pixClear s.sh s.lv c).trans (if_neg s.lv_ne_sh)
  | carry => rfl

/-- Settles O40: the exchange of roles makes the old live buffer the shadow that the clear policy is about. -/
theorem frameDoneSwapsAndClears : Obligations.FrameDoneSwapsAndClears := by
  intro s hact hst
  refine ⟨_, State.renderStep_of_frameDone hact hst, s.shadowSel_frameDoneStep, fun c => ?kept,
    fun c => ?cleared, ?frame⟩
  case kept =>
    have hlive := s.swapRoles.pixRead_clearPerPolicy_lv c
    rwa [State.lv_swapRoles] at hlive
  case cleared => exact s.swapRoles.pixRead_clearPerPolicy_sh c
  case frame =>
    rw [State.frameDoneStep, State.clearPerPolicy_frame]
    rfl

end Sys2Proof.Machine
end

section
/-! PROOF. ACQ_SAMPLE with and without a render tick, and the column at which a tick ends (`44_render_scheduler.md` R204
to R220). -/

namespace Sys2Proof.Machine

open Sys2Proof

/-! ### ACQ_SAMPLE without a tick -/

theorem countsSamples_iff {s : State} :
    countsSamples s = true ↔ s.cfg.schedMode = .singleTimer ∧ s.schedEn = true := by
  simp [countsSamples]

theorem State.acquire_tickcnt (s : State) (v : Sample) : (s.acquire v).tickcnt = s.tickcnt :=
  congrArg HostRegs.tickcnt (s.acquire_hostRegs v)

/-- The state after an ACQ_SAMPLE that runs no tick and leaves the count at `n` (`44_render_scheduler.md` R219). -/
def State.sampled (s : State) (v : Sample) (n : BitVec 16) : State :=
  { s.ringPush v with
    buslog := s.buslog ++ (if s.rip then [busWord .endTransaction] else [])
    rip := false
    abort := s.abort || s.rip
    tickcnt := n
    result := 0#32 }

theorem exec_acqSample_uncounted {s : State} (hc : countsSamples s = false) (v : Sample) :
    exec (.acqSample v) s = .next (s.sampled v s.tickcnt) := by
  simp only [exec, execAcqSample, hc, Bool.false_eq_true, if_false, State.acquire_eq]
  rfl

theorem exec_acqSample_counted {s : State} (hc : countsSamples s = true)
    (hn : s.tickcnt.toNat + 1 ≠ tickSamplesOf s.cfg) (v : Sample) :
    exec (.acqSample v) s = .next (s.sampled v (s.tickcnt + 1#16)) := by
  simp only [exec, execAcqSample, hc, if_true, State.countSample, State.acquire_tickcnt, State.acquire_cfg, hn,
    if_false]
  rw [State.acquire_eq]
  rfl

/-- An ACQ_SAMPLE short of a tick, counted in the single-timer configuration with the scheduler enabled. -/
theorem exec_acqSample_no_tick {s : State} (hn : countsSamples s = true → s.tickcnt.toNat + 1 ≠ tickSamplesOf s.cfg)
    (v : Sample) :
    exec (.acqSample v) s = .next (s.sampled v (if countsSamples s then s.tickcnt + 1#16 else s.tickcnt)) := by
  cases hc : countsSamples s with
  | false => exact exec_acqSample_uncounted hc v
  | true => exact exec_acqSample_counted hc (hn hc) v

/-- Settles O30: the forced release, the push and the count, each on its own registers. -/
theorem acquisitionReleasesThenPushes : Obligations.AcquisitionReleasesThenPushes := by
  intro s v hwf hbelow hquiet
  have hn : countsSamples s = true → s.tickcnt.toNat + 1 ≠ tickSamplesOf s.cfg := fun hc =>
    (countsSamples_iff.1 hc).elim hquiet
  refine ⟨_, exec_acqSample_no_tick hn v, fun hrip => ?held, fun hrip => ?free, rfl, s.ringPush_cursor_toNat v,
    State.read_ringPush hwf v, ?count, rfl⟩
  case held => simp [State.sampled, hrip, busWord]
  case free => simp [State.sampled, hrip]
  case count =>
    have hmax := (tickSamplesOf_bounds s.cfg).2
    simp only [State.sampled, countsSamples_iff]
    split
    · bv_omega
    · rfl

/-! ### ACQ_SAMPLE with a tick -/

theorem exec_acqSample_tick {s : State} (hc : countsSamples s = true)
    (hn : s.tickcnt.toNat + 1 = tickSamplesOf s.cfg) (v : Sample) :
    exec (.acqSample v) s = .next ((s.acquire v).tickDue.runTickAtomic.setResult 0#32) := by
  have hdue : (s.acquire v).tickcnt.toNat + 1 = tickSamplesOf (s.acquire v).cfg := by
    rw [State.acquire_tickcnt, State.acquire_cfg, hn]
  simp only [exec, execAcqSample, hc, if_true, State.countSample, if_pos hdue]
  rfl

/-- The loop of R220 takes some number of render steps, each from a state with RENDER_ACTIVE = 1. -/
theorem State.runWhileActive_eq_iterate : ∀ (fuel : Nat) (s : State), ∃ n,
    (∀ k < n, (State.renderStep^[k] s).renderActive = true) ∧ State.runWhileActive fuel s = State.renderStep^[n] s
  | 0, s => ⟨0, nofun, rfl⟩
  | fuel + 1, s => by
    unfold State.runWhileActive
    split
    case isFalse => exact ⟨0, nofun, rfl⟩
    case isTrue ha =>
      obtain ⟨n, hactive, hrun⟩ := State.runWhileActive_eq_iterate fuel s.renderStep
      refine ⟨n + 1, fun k hk => ?_, hrun⟩
      cases k with
      | zero => exact ha
      | succ k => exact hactive k (Nat.lt_of_succ_lt_succ hk)

/-- The host registers after the ACQ_SAMPLE's tick: the push's, with the count at 0. -/
theorem State.acquireTick_hostRegs (s : State) (v : Sample) :
    (s.acquire v).tickDue.runTickAtomic.hostRegs =
      { s.hostRegs with ring := (s.ringPush v).ring, cursor := (s.ringPush v).cursor, tickcnt := 0#16 } := by
  have hdue : (s.acquire v).tickDue.hostRegs = { (s.acquire v).hostRegs with tickcnt := 0#16 } := rfl
  rw [State.runTickAtomic_hostRegs, hdue, State.acquire_hostRegs]

/-- Settles O31: the loop is an iteration of RenderStep that runs to the tick's end, and render steps write no host
register. -/
theorem acquisitionRunsTheTickToItsEnd : Obligations.AcquisitionRunsTheTickToItsEnd := by
  intro s v hwf hm hen hn
  obtain ⟨n, hactive, hrun⟩ := State.runWhileActive_eq_iterate tickFuel (s.acquire v).tickDue.tickStart
  have hhost := s.acquireTick_hostRegs v
  have hring : (s.acquire v).tickDue.runTickAtomic.ring = (s.ringPush v).ring := congrArg HostRegs.ring hhost
  have hcursor : (s.acquire v).tickDue.runTickAtomic.cursor = (s.ringPush v).cursor := congrArg HostRegs.cursor hhost
  obtain ⟨hillegal, hrange, hbusy, hinfo⟩ := State.faultRegs_eq_iff.1 (congrArg HostRegs.faults hhost)
  refine ⟨_, n, exec_acqSample_tick (countsSamples_iff.2 ⟨hm, hen⟩) hn v, ⟨hactive, congrArg (·.setResult 0#32) hrun⟩,
    congrArg HostRegs.tickcnt hhost, State.runTickAtomic_renderActive _, State.runTickAtomic_renderReq _, ?cursor,
    ?ring, rfl, congrArg HostRegs.cfg hhost, congrArg HostRegs.zoom hhost, congrArg HostRegs.schedEn hhost,
    congrArg HostRegs.pending hhost, hillegal, hrange, hbusy, hinfo⟩
  case cursor => exact (congrArg BitVec.toNat hcursor).trans (s.ringPush_cursor_toNat v)
  case ring =>
    simp only [State.setResult_ring, State.setResult_cursor, hring, hcursor]
    exact State.read_ringPush hwf v

/-! ### The column at which a tick ends -/

theorem tickEnd_congr {s t : State} (h : t.renderRegs = s.renderRegs) : tickEnd t = tickEnd s := by
  obtain ⟨hst, hcol, hleft, -⟩ := State.renderRegs_eq_iff.1 h
  rw [tickEnd, hst, hcol, hleft, tickEnd]

theorem tickEnd_of_not_frameStart {s : State} (h : s.schedState ≠ .frameStart) :
    tickEnd s = s.schedCol.toNat + s.tickLeft.toNat := by
  rw [tickEnd, if_neg h]

/-- TickStart fixes the column at which the tick will end (`44_render_scheduler.md` R204). -/
theorem SchedInv.tickEnd_tickStart {s : State} (h : SchedInv s) (ha : s.renderActive = false) :
    tickEnd s.tickStart = (if s.schedState = .idle then 0 else s.schedCol.toNat) + colsPerTickOf s.cfg := by
  rw [tickEnd, s.tickStart_tickLeft_toNat, State.tickStart_schedState, State.tickStart_schedCol]
  obtain hst | hst := h.inactiveStates ha <;> simp [hst]

/-- Between two ticks no budget is left, so the tick has ended at SCHED_COL (`44_render_scheduler.md` R206). -/
theorem SchedInv.tickEnd_of_inactive {s : State} (h : SchedInv s) (ha : s.renderActive = false) :
    tickEnd s = s.schedCol.toNat := by
  have hst : s.schedState ≠ .frameStart := by
    obtain hst | hst := h.inactiveStates ha <;> simp [hst]
  rw [tickEnd_of_not_frameStart hst, h.inactiveBudget ha]
  rfl

/-- A filled column is paid for by the budget (`44_render_scheduler.md` R206). -/
theorem SchedInv.tickEnd_columnFillStep {s : State} (h : SchedInv s) (hst : s.schedState = .columnFill) :
    tickEnd s.columnFillStep = tickEnd s := by
  have hcol := h.fillCol hst
  rw [tickEnd_of_not_frameStart (s := s) (by simp [hst])]
  by_cases hbudget : s.tickLeft = 0#2
  · have hends : s.columnFillStep = { s with renderActive := false } := if_pos hbudget
    rw [hends, tickEnd_of_not_frameStart (by simp [hst])]
  · rw [State.columnFillStep_of_budget hbudget, tickEnd_of_not_frameStart (by dsimp only; rw [hst]; split <;> nofun)]
    bv_omega

/-- No render step of a tick moves the column at which it will end. -/
theorem SchedInv.tickEnd_renderStep {s : State} (h : SchedInv s) (ha : s.renderActive = true) :
    tickEnd s.renderStep = tickEnd s := by
  obtain ⟨hn, -⟩ | ⟨-, -, he⟩ | ⟨-, hst, he⟩ | ⟨-, hst, he⟩ | ⟨-, hst, he⟩ | ⟨-, hst, he⟩ := s.renderStep_cases
  · exact absurd (ha.symm.trans hn) nofun
  all_goals rw [he]
  · rw [tickEnd, tickEnd, if_pos hst]
    rfl
  · exact h.tickEnd_columnFillStep hst
  · obtain ⟨hcol, hleft, -⟩ := s.flushStep_frame
    have hnext : s.flushStep.schedState ≠ .frameStart := by
      obtain hn | hn := s.flushStep_schedState <;> rw [hn]
      · simp [hst]
      · split <;> nofun
    rw [tickEnd_of_not_frameStart hnext, tickEnd_of_not_frameStart (by simp [hst]), hcol, hleft]
  · rw [State.frameDoneStep, State.clearPerPolicy_frame, tickEnd_of_not_frameStart (s := s) (by simp [hst])]
    rfl

/-- A tick that nothing interleaves with ends at the column that TickStart fixed (`44_render_scheduler.md` R220). -/
theorem SchedInv.schedCol_runTickAtomic {s : State} (h : SchedInv s) (ha : s.renderActive = false) :
    s.runTickAtomic.schedCol.toNat =
      (if s.schedState = .idle then 0 else s.schedCol.toNat) + colsPerTickOf s.cfg := by
  obtain ⟨hs, hend⟩ : SchedInv s.runTickAtomic ∧ tickEnd s.runTickAtomic = tickEnd s.tickStart :=
    State.runWhileActive_keeps (P := fun u => SchedInv u ∧ tickEnd u = tickEnd s.tickStart)
      (fun _ hact ⟨hs, hend⟩ => ⟨hs.renderStep, (hs.tickEnd_renderStep hact).trans hend⟩) tickFuel _
      ⟨h.tickStart ha, rfl⟩
  rw [← hs.tickEnd_of_inactive s.runTickAtomic_renderActive, hend, h.tickEnd_tickStart ha]

/-- In the dual-timer configuration a step but reset leaves the micro-state alone or is a render step. -/
theorem step_dualTimer_cases {s t : State} (hd : s.cfg.schedMode = .dualTimer)
    (hreset : ∀ rest, s.pending ≠ .reset :: rest) (h : step s = .next t) :
    t.renderRegs = s.renderRegs ∨ ∃ u : State, u.cfg = s.cfg ∧ u.renderRegs = s.renderRegs ∧ t = u.renderStep := by
  have turn : ∀ u : State, u.cfg = s.cfg → u.renderRegs = s.renderRegs → renderTurn u = .next t →
      t.renderRegs = s.renderRegs ∨ ∃ u : State, u.cfg = s.cfg ∧ u.renderRegs = s.renderRegs ∧ t = u.renderStep := by
    intro u hcfg hregs ht
    obtain ⟨-, he⟩ | ⟨-, -, he⟩ | ⟨-, -, he⟩ := renderTurn_cases u <;> cases he.symm.trans ht
    · exact .inl hregs
    · exact .inr ⟨u, hcfg, hregs, rfl⟩
  obtain ⟨-, ht⟩ | ⟨rest, -, ht⟩ | ⟨rest, hp, -⟩ | ⟨cw, rest, e, -, -, rfl⟩ | ⟨cw, rest, i, -, -, he⟩ :=
    step_next_cases h
  · exact turn s rfl rfl ht
  · exact turn (s.withPending rest) rfl rfl ht
  · exact absurd hp (hreset rest)
  · exact .inl rfl
  · obtain heffect | ⟨k, rfl⟩ := exec_next_cases he
    · have huncounted : countsSamples (s.withPending rest) ≠ true := fun hc =>
        absurd (hd.symm.trans (singleTimer_of_countsSamples hc)) nofun
      exact .inl (heffect.renderRegs_eq fun hc => absurd hc huncounted)
    · exact .inl rfl

/-- Settles O32: the tick's end is fixed by TickStart and moved by no render step, and what is no render step leaves the
micro-state alone. -/
theorem everyTickFillsItsColumns : Obligations.EveryTickFillsItsColumns := by
  refine ⟨fun s => SchedInv.schedCol_runTickAtomic, fun s t hs hd hreset h => ?_⟩
  obtain hregs | ⟨u, hcfg, hregs, rfl⟩ := step_dualTimer_cases hd hreset h
  · have hact : t.renderActive = s.renderActive := congrArg RenderRegs.renderActive hregs
    refine ⟨fun ha ht => ?_, fun _ => tickEnd_congr hregs, fun ha ht => ?_⟩
    · exact absurd (ha.symm.trans (hact.symm.trans ht)) nofun
    · exact absurd (ha.symm.trans (hact.symm.trans ht)) nofun
  · have hu : SchedInv u := hs.of_renderRegs hcfg hregs
    have hact : u.renderActive = s.renderActive := congrArg RenderRegs.renderActive hregs
    have hst : u.schedState = s.schedState := congrArg RenderRegs.schedState hregs
    have hcol : u.schedCol = s.schedCol := congrArg RenderRegs.schedCol hregs
    have hkept : s.renderActive = true → tickEnd u.renderStep = tickEnd s := fun ha =>
      (hu.tickEnd_renderStep (hact.trans ha)).trans (tickEnd_congr hregs)
    refine ⟨fun ha _ => ?starts, hkept, fun ha ht => ?ends⟩
    case starts =>
      rw [State.renderStep_of_inactive (hact.trans ha), hu.tickEnd_tickStart (hact.trans ha), hst, hcol, hcfg]
    case ends => exact (hu.renderStep.tickEnd_of_inactive ht).symm.trans (hkept ha)

end Sys2Proof.Machine
end

section
/-! PROOF. While the scheduler owns the buffers, flushed columns agree in shadow and live, and the rows of the swath
that still differ are the rows still to send; a preempted swath sends exactly those (`44_render_scheduler.md` R206 to
R223). -/

namespace Sys2Proof.Machine

open Sys2Proof

/-! ### Agreement of the buffers -/

/-- The two buffers and their roles. -/
def State.planes (s : State) : PixBuf × PixBuf × Bool := (s.p0, s.p1, s.shadowSel)

theorem State.pixel_of_planes {s t : State} (h : t.planes = s.planes) :
    t.sh = s.sh ∧ t.lv = s.lv ∧ ∀ b c r, t.pixel b c r = s.pixel b c r := by
  simp only [State.planes, Prod.mk.injEq] at h
  obtain ⟨h0, h1, hsel⟩ := h
  exact ⟨hsel, congrArg not hsel, State.pixel_congr h0 h1⟩

theorem swathDiffers_of_planes {s t : State} (h : t.planes = s.planes) (l r : Nat) :
    swathDiffers t l r = swathDiffers s l r := by
  obtain ⟨hsh, hlv, hpix⟩ := State.pixel_of_planes h
  simp only [swathDiffers, hsh, hlv, hpix]

theorem swathDiffers_eq_false {s : State} {l r : Nat} :
    swathDiffers s l r = false ↔
      s.pixel s.sh l r = s.pixel s.lv l r ∧ s.pixel s.sh (l + 1) r = s.pixel s.lv (l + 1) r := by
  simp [swathDiffers]

/-- Shadow and live agree on the columns below `n`. -/
def AgreesBelow (s : State) (n : Nat) : Prop := ∀ c r, c < n → s.pixel s.sh c r = s.pixel s.lv c r

theorem AgreesBelow.zero (s : State) : AgreesBelow s 0 := fun _ _ h => absurd h (Nat.not_lt_zero _)

theorem AgreesBelow.of_planes {s t : State} {n : Nat} (h : AgreesBelow s n) (hp : t.planes = s.planes) :
    AgreesBelow t n := by
  obtain ⟨hsh, hlv, hpix⟩ := State.pixel_of_planes hp
  intro c r hc
  rw [hsh, hlv, hpix, hpix]
  exact h c r hc

/-- A buffer has no pixel past row 63 (`10_state.md` R22). -/
theorem State.pixel_of_row_ge (s : State) (b : Bool) (c : Nat) {r : Nat} (hr : 64 ≤ r) : s.pixel b c r = false :=
  BitVec.getLsbD_of_ge _ r hr

/-- A swath at which no row differs extends the agreement by its two columns. -/
theorem AgreesBelow.swath {s : State} {l : Nat} (h : AgreesBelow s l) (hsame : ∀ r < 64, swathDiffers s l r = false) :
    AgreesBelow s (l + 2) := by
  intro c r hc
  by_cases hr : r < 64
  · obtain ⟨hleft, hright⟩ := swathDiffers_eq_false.1 (hsame r hr)
    obtain hlt | rfl | rfl : c < l ∨ c = l ∨ c = l + 1 := by omega
    · exact h c r hlt
    · exact hleft
    · exact hright
  · rw [s.pixel_of_row_ge _ c (Nat.le_of_not_lt hr), s.pixel_of_row_ge _ c (Nat.le_of_not_lt hr)]

/-- A row's commit makes live agree with shadow and breaks no agreement (`41_diff_engine.md` R137). -/
theorem AgreesBelow.commitRow {s : State} {n : Nat} (h : AgreesBelow s n) {l : Nat} (hl : l + 1 < 128) (r : Nat) :
    AgreesBelow (s.commitRow l r) n := by
  intro c q hc
  change (s.commitRow l r).pixel s.sh c q = (s.commitRow l r).pixel s.lv c q
  rw [s.pixel_commitRow hl, s.pixel_commitRow hl, if_neg fun hb => s.lv_ne_sh hb.1.symm]
  split
  · rfl
  · exact h c q hc

/-- A row's commit leaves the other rows of its swath differing as they did. -/
theorem swathDiffers_commitRow (s : State) {l : Nat} (hl : l + 1 < 128) (r q : Nat) :
    swathDiffers (s.commitRow l r) l q = (swathDiffers s l q && decide (q ≠ r)) := by
  have hsh : (s.commitRow l r).sh = s.sh := rfl
  have hlv : (s.commitRow l r).lv = s.lv := rfl
  simp only [swathDiffers, hsh, hlv, s.pixel_commitRow hl]
  by_cases hq : q = r <;> simp [hq, s.lv_ne_sh.symm]

/-- COLUMN_FILL draws in a column that is not flushed yet (`44_render_scheduler.md` R206). -/
theorem AgreesBelow.columnFillStep {s : State} {n : Nat} (h : AgreesBelow s n) (hbudget : s.tickLeft ≠ 0#2)
    (hcol : s.schedCol.toNat < 128) (hn : n ≤ s.schedCol.toNat) : AgreesBelow s.columnFillStep n := by
  obtain ⟨hsh, hlive⟩ := s.columnFillStep_sameLive.pixels
  intro c r hc
  have hdrawn : ¬ (s.sh = s.sh ∧ c = s.schedCol.toNat ∧
      r = sampleToRow s.cfg (s.columnSample s.schedCol.toNat)) := by omega
  rw [hlive, hsh, State.pixel_columnFillStep hbudget hcol, if_neg hdrawn]
  exact h c r hc

/-! ### The frame's invariant -/

/-- The rows of the swath in OPS at which shadow and live differ are the transmitted rows not yet written
(`44_render_scheduler.md` R223). -/
def SendsTheRest (s : State) : Prop :=
  ∀ r < 64, swathDiffers s s.opsLeft.toNat r = (rowSent s.ops r && notYetWritten s r)

theorem FrameInv.of_diff {s : State} (hp : s.flushPhase = .diff) (h : AgreesBelow s (flushedCols s)) : FrameInv s :=
  ⟨h, fun _ _ hne => absurd hp hne⟩

/-- In a swath's flush the swath itself is not flushed yet (`44_render_scheduler.md` R216). -/
theorem flushedCols_of_swathFlush {s : State} (hst : s.schedState = .swathFlush) : flushedCols s = s.flushLeft := by
  rw [flushedCols, hst, State.flushLeft]

theorem FrameInv.of_swathFlush {s : State} (hst : s.schedState = .swathFlush) (h : AgreesBelow s s.flushLeft)
    (hsend : SendsTheRest s) : FrameInv s :=
  ⟨by rw [flushedCols_of_swathFlush hst]; exact h, fun r hr _ => hsend r hr⟩

theorem FrameInv.agreesBelow {s : State} (h : FrameInv s) (hst : s.schedState = .swathFlush) :
    AgreesBelow s s.flushLeft := by
  have hagree := h.agree
  rwa [flushedCols_of_swathFlush hst] at hagree

/-- The invariant reads the planes, OPS, the columns flushed and the row in flight. -/
theorem FrameInv.congr {s t : State} (h : FrameInv s) (hplanes : t.planes = s.planes)
    (hcols : flushedCols t = flushedCols s) (hphase : t.flushPhase = s.flushPhase) (hrow : t.flushRow = s.flushRow)
    (hops : t.ops = s.ops) (hleft : t.opsLeft = s.opsLeft) : FrameInv t where
  agree := by
    rw [hcols]
    exact AgreesBelow.of_planes h.agree hplanes
  toSend r hr hp := by
    have hwritten : notYetWritten t r = notYetWritten s r := by rw [notYetWritten, hphase, hrow, notYetWritten]
    rw [swathDiffers_of_planes hplanes, hops, hleft, hwritten]
    exact h.toSend r hr (hphase ▸ hp)

theorem FrameInv.of_renderRegs {s t : State} (h : FrameInv s) (hplanes : t.planes = s.planes)
    (hregs : t.renderRegs = s.renderRegs) (hops : t.ops = s.ops) (hleft : t.opsLeft = s.opsLeft) : FrameInv t := by
  obtain ⟨hst, hcol, -, hphase, hrow, -⟩ := State.renderRegs_eq_iff.1 hregs
  exact h.congr hplanes (by rw [flushedCols, hst, hcol, flushedCols]) hphase hrow hops hleft

theorem FrameInv.resetWith (c : Config) (p : List PortEvent) : FrameInv (State.resetWith c p) :=
  .of_diff rfl (.zero _)

/-! ### Render steps outside the flush -/

/-- TickStart goes from IDLE to FRAME_START, and no column is flushed in either. -/
theorem flushedCols_tickStart (s : State) : flushedCols s.tickStart = flushedCols s := by
  simp only [flushedCols, State.tickStart_schedState, State.tickStart_schedCol]
  cases s.schedState <;> rfl

theorem FrameInv.tickStart {s : State} (h : FrameInv s) : FrameInv s.tickStart :=
  h.congr rfl (flushedCols_tickStart s) rfl rfl rfl rfl

theorem FrameInv.frameStartStep {s : State} (hflush : FlushInv s) (hst : s.schedState = .frameStart) :
    FrameInv s.frameStartStep :=
  .of_diff (hflush.phase_diff (by simp [hst])) (.zero _)

/-- Filling a column flushes none: an odd one completes a swath, whose flush is still to come. -/
theorem flushedCols_columnFillStep {s : State} (hst : s.schedState = .columnFill) (hbudget : s.tickLeft ≠ 0#2)
    (hcol : s.schedCol.toNat < 128) : flushedCols s.columnFillStep = flushedCols s := by
  have hnext : (s.schedCol + 1#8).toNat = s.schedCol.toNat + 1 := by bv_omega
  rw [State.columnFillStep_of_budget hbudget]
  simp only [flushedCols, hst, hnext]
  by_cases hodd : s.schedCol.toNat % 2 = 1
  · simp only [hodd, if_true]
    omega
  · simp only [hodd, if_false]
    omega

theorem FrameInv.columnFillStep {s : State} (hsched : SchedInv s) (hflush : FlushInv s) (h : FrameInv s)
    (hst : s.schedState = .columnFill) : FrameInv s.columnFillStep := by
  have hp : s.flushPhase = .diff := hflush.phase_diff (by simp [hst])
  have hcol := hsched.fillCol hst
  by_cases hbudget : s.tickLeft = 0#2
  · have hends : s.columnFillStep = { s with renderActive := false } := if_pos hbudget
    rw [hends]
    exact h.congr rfl rfl rfl rfl rfl rfl
  · have hbelow : flushedCols s ≤ s.schedCol.toNat := by
      rw [flushedCols, hst]
      exact Nat.sub_le ..
    refine .of_diff ?phase ?agree
    case phase =>
      rw [State.columnFillStep_of_budget hbudget]
      simp [hp]
    case agree =>
      rw [flushedCols_columnFillStep hst hbudget hcol]
      exact AgreesBelow.columnFillStep h.agree hbudget hcol hbelow

theorem FrameInv.frameDoneStep {s : State} (hflush : FlushInv s) (hst : s.schedState = .frameDone) :
    FrameInv s.frameDoneStep := by
  have hp : s.flushPhase = .diff := hflush.phase_diff (by simp [hst])
  rw [State.frameDoneStep, State.clearPerPolicy_frame]
  exact .of_diff hp (.zero _)

/-! ### The flush -/

/-- A flush that ends has made its swath agree (`44_render_scheduler.md` R216). -/
theorem FrameInv.afterFlush {s : State} (heven : s.schedCol.toNat % 2 = 0) (h : AgreesBelow s s.schedCol.toNat) :
    FrameInv s.afterFlush := by
  have hcols : flushedCols s.afterFlush = s.schedCol.toNat := by
    rw [State.afterFlush_eq]
    by_cases hlast : s.schedCol.toNat = 128
    · simp only [flushedCols, hlast, if_true]
    · simp only [flushedCols, hlast, if_false, heven, Nat.sub_zero]
  refine .of_diff rfl ?_
  rw [hcols]
  exact h.of_planes rfl

/-- Agreement on the current swath too: agreement below the column to fill next. -/
theorem AgreesBelow.schedCol {s : State} (hfirst : 2 ≤ s.schedCol.toNat) (h : AgreesBelow s s.flushLeft)
    (hsame : ∀ r < 64, swathDiffers s s.flushLeft r = false) : AgreesBelow s s.schedCol.toNat := by
  have hcol : s.flushLeft + 2 = s.schedCol.toNat := Nat.sub_add_cancel hfirst
  exact hcol ▸ h.swath hsame

/-- DiffStep makes the rows that differ the transmitted ones; a swath skipped has none (`44_render_scheduler.md` R207,
`41_diff_engine.md` R143). -/
theorem FrameInv.diffStep {s : State} (hsched : SchedInv s) (h : FrameInv s) (hst : s.schedState = .swathFlush) :
    FrameInv s.diffStep := by
  obtain ⟨heven, hfirst⟩ := hsched.flushCol hst
  have hmax := hsched.colMax
  have hagree := h.agreesBelow hst
  by_cases hblank : isBlank (s.diffSwath s.flushLeft) = true
  · have hsame : ∀ r < 64, swathDiffers s s.flushLeft r = false := fun r hr => by
      rw [← rowSent_diffSwath, ← rowAny_eq_rowSent]
      exact (isBlank_iff _).1 hblank r hr
    rw [State.diffStep_of_blank hblank]
    exact .afterFlush heven ((AgreesBelow.schedCol hfirst hagree hsame).of_planes rfl)
  · rw [State.diffStep_of_not_blank hblank]
    refine .of_swathFlush hst (hagree.of_planes rfl) fun r _ => ?_
    have hleft : (BitVec.ofNat 7 s.flushLeft).toNat = s.flushLeft := by
      rw [BitVec.toNat_ofNat, State.flushLeft, Nat.mod_eq_of_lt (by omega)]
    have hdiffers : swathDiffers s s.flushLeft r = (rowSent (s.diffSwath s.flushLeft) r && true) := by
      rw [rowSent_diffSwath, Bool.and_true]
    dsimp only [State.setOps_opsLeft]
    rw [hleft]
    exact hdiffers

/-- A bus step that writes no row: the next phase has the same rows still to write. -/
theorem FrameInv.emitStep {s : State} (h : FrameInv s) (hst : s.schedState = .swathFlush) (hp : s.flushPhase ≠ .diff)
    (ev : BusEvent) {p : FlushPhase} (hwritten : ∀ r, notYetWritten { s with flushPhase := p } r = notYetWritten s r) :
    FrameInv { s.emit ev with flushPhase := p } := by
  refine .of_swathFlush hst ((h.agreesBelow hst).of_planes rfl) fun r hr => ?_
  have hsend := h.toSend r hr hp
  rw [← hwritten] at hsend
  exact (swathDiffers_of_planes (s := s) rfl _ _).trans hsend

/-- Of the transmitted rows from `r` on, going to the next one skips none (`44_render_scheduler.md` R210). -/
theorem notYetWritten_toRow (s : State) (r : Nat) {q : Nat} (hq : q < 64) :
    (rowSent s.ops q && notYetWritten (s.toRow r) q) = (rowSent s.ops q && decide (r ≤ q)) := by
  cases hsent : rowSent s.ops q with
  | false => rfl
  | true =>
    obtain ⟨hskip, hnext⟩ := s.toRow_spec r
    have hreached : r ≤ q → (s.toRow r).flushRow.toNat ≤ q := fun hr => by
      by_contra hlt
      exact absurd (hsent.symm.trans (hskip q hq hr (by omega))) nofun
    rw [Bool.true_and, Bool.true_and, notYetWritten]
    obtain ⟨hge, -, -, hphase⟩ | ⟨hend, hphase⟩ := hnext <;> rw [hphase]
    · exact decide_eq_decide.2 ⟨hge.trans, hreached⟩
    · have hnone : ¬ r ≤ q := fun hr => by
        have := hreached hr
        omega
      exact (decide_eq_false hnone).symm

/-- The rows from `r` on are still to send: so it is after going to the first of them (`44_render_scheduler.md` R210,
R214). -/
theorem FrameInv.toRow {s : State} (hst : s.schedState = .swathFlush) (h : AgreesBelow s s.flushLeft) (r : Nat)
    (hsend : ∀ q < 64, swathDiffers s s.opsLeft.toNat q = (rowSent s.ops q && decide (r ≤ q))) :
    FrameInv (s.toRow r) := by
  refine .of_swathFlush hst (h.of_planes rfl) fun q hq => ?_
  have hrest := hsend q hq
  rw [← notYetWritten_toRow s r hq] at hrest
  exact (swathDiffers_of_planes (s := s) rfl _ _).trans hrest

theorem FrameInv.busSelColStep {s : State} (h : FrameInv s) (hst : s.schedState = .swathFlush)
    (hp : s.flushPhase = .busSelCol) : FrameInv s.busSelColStep := by
  refine FrameInv.toRow (s := s.emit (selSwath s.opsLeft.toNat)) hst ((h.agreesBelow hst).of_planes rfl) 0
    fun q hq => ?_
  have hsend := h.toSend q hq (by simp [hp])
  rw [notYetWritten, hp] at hsend
  exact (swathDiffers_of_planes (s := s) rfl _ _).trans hsend

/-- ROW_WR takes its own row from the rows still to send, and no other (`44_render_scheduler.md` R214). -/
theorem swathDiffers_rowWrStep {s : State} (heven : s.opsLeft.toNat % 2 = 0) (q : Nat) :
    swathDiffers s.rowWrStep s.opsLeft.toNat q =
      (swathDiffers s s.opsLeft.toNat q && decide (q ≠ s.flushRow.toNat)) :=
  swathDiffers_commitRow (s.emit (.write (rowByte s.ops s.flushRow.toNat))) (State.opsLeft_succ_lt heven) _ q

theorem FrameInv.rowWrStep {s : State} (hflush : FlushInv s) (h : FrameInv s) (hst : s.schedState = .swathFlush)
    (hp : s.flushPhase = .rowWr) : FrameInv s.rowWrStep := by
  have hcommit := State.opsLeft_succ_lt hflush.opsLeftEven
  have hagree : AgreesBelow (s.emit (.write (rowByte s.ops s.flushRow.toNat))) s.flushLeft :=
    (h.agreesBelow hst).of_planes rfl
  refine FrameInv.toRow
    (s := (s.emit (.write (rowByte s.ops s.flushRow.toNat))).commitRow s.opsLeft.toNat s.flushRow.toNat) hst
    (hagree.commitRow hcommit s.flushRow.toNat) (s.flushRow.toNat + 1) fun q hq => ?_
  have hsend := h.toSend q hq (by simp [hp])
  rw [notYetWritten, hp] at hsend
  have hnext :
      (decide (s.flushRow.toNat ≤ q) && decide (q ≠ s.flushRow.toNat)) = decide (s.flushRow.toNat + 1 ≤ q) := by
    rw [← Bool.decide_and, decide_eq_decide]
    omega
  calc swathDiffers s.rowWrStep s.opsLeft.toNat q
      = (swathDiffers s s.opsLeft.toNat q && decide (q ≠ s.flushRow.toNat)) :=
        swathDiffers_rowWrStep hflush.opsLeftEven q
    _ = (rowSent s.ops q && decide (s.flushRow.toNat + 1 ≤ q)) := by rw [hsend, Bool.and_assoc, hnext]

/-- At BUS_END every transmitted row has been written (`44_render_scheduler.md` R215). -/
theorem FrameInv.busEndStep {s : State} (hsched : SchedInv s) (hflush : FlushInv s) (h : FrameInv s)
    (hst : s.schedState = .swathFlush) (hp : s.flushPhase = .busEnd) : FrameInv s.busEndStep := by
  obtain ⟨heven, hfirst⟩ := hsched.flushCol hst
  obtain ⟨hleft, -⟩ := hflush.opsSwath (by simp [hp])
  have hsame : ∀ r < 64, swathDiffers s s.flushLeft r = false := fun r hr => by
    rw [← hleft, h.toSend r hr (by simp [hp]), notYetWritten, hp]
    exact Bool.and_false _
  exact .afterFlush heven ((AgreesBelow.schedCol hfirst (h.agreesBelow hst) hsame).of_planes rfl)

theorem FrameInv.flushStep {s : State} (hsched : SchedInv s) (hflush : FlushInv s) (h : FrameInv s)
    (hst : s.schedState = .swathFlush) : FrameInv s.flushStep := by
  obtain ⟨-, he⟩ | ⟨hp, he⟩ | ⟨-, -, -, he⟩ | ⟨hp, -, he⟩ | ⟨hp, -, he⟩ | ⟨hp, -, he⟩ | ⟨hp, -, he⟩ | ⟨hp, -, he⟩ |
    ⟨hp, -, he⟩ := s.flushStep_cases <;> rw [he]
  · exact h.diffStep hsched hst
  · exact (h.emitStep hst (by simp [hp]) .cmd (p := .busSelCol) fun r => by rw [notYetWritten, notYetWritten, hp]).congr
      rfl rfl rfl rfl rfl rfl
  · exact .of_diff rfl (AgreesBelow.of_planes h.agree rfl)
  · exact h.busSelColStep hst hp
  · exact h.emitStep hst (by simp [hp]) .cmd fun r => by rw [notYetWritten, notYetWritten, hp]
  · exact h.emitStep hst (by simp [hp]) (selSingleRow s.flushRow.toNat) fun r => by
      rw [notYetWritten, notYetWritten, hp]
  · exact h.emitStep hst (by simp [hp]) .data fun r => by rw [notYetWritten, notYetWritten, hp]
  · exact h.rowWrStep hflush hst hp
  · exact h.busEndStep hsched hflush hst hp

theorem FrameInv.renderStep {s : State} (hsched : SchedInv s) (hflush : FlushInv s) (h : FrameInv s) :
    FrameInv s.renderStep := by
  obtain ⟨-, he⟩ | ⟨-, -, he⟩ | ⟨-, hst, he⟩ | ⟨-, hst, he⟩ | ⟨-, hst, he⟩ | ⟨-, hst, he⟩ := s.renderStep_cases <;>
    rw [he]
  · exact h.tickStart
  · exact h
  · exact .frameStartStep hflush hst
  · exact h.columnFillStep hsched hflush hst
  · exact h.flushStep hsched hflush hst
  · exact .frameDoneStep hflush hst

theorem FrameInv.runTickAtomic {s : State} (hsched : SchedInv s) (hflush : FlushInv s) (h : FrameInv s)
    (ha : s.renderActive = false) : FrameInv s.runTickAtomic := by
  obtain ⟨-, -, hkept⟩ : SchedInv s.runTickAtomic ∧ FlushInv s.runTickAtomic ∧ FrameInv s.runTickAtomic :=
    State.runWhileActive_keeps (P := fun u => SchedInv u ∧ FlushInv u ∧ FrameInv u)
      (fun _ _ ⟨hs, hf, hframe⟩ => ⟨hs.renderStep, hf.renderStep hs, hframe.renderStep hs hf⟩) tickFuel _
      ⟨hsched.tickStart ha, hflush.tickStart, h.tickStart⟩
  exact hkept

/-! ### Commands and steps -/

theorem FrameInv.acquire {s : State} (h : FrameInv s) (v : Sample) : FrameInv (s.acquire v) := by
  rw [State.acquire_eq]
  exact h.of_renderRegs rfl rfl rfl rfl

/-- While the scheduler owns the buffers the direct writers are shut out, and ACQ_SAMPLE's tick is the one command that
draws (`60_exceptions.md` R261). -/
theorem CommandEffect.keeps_frameInv {s t : State} {i : Instr} (he : CommandEffect s i t)
    (hg : s.schedEn = true ∨ s.renderActive = true) (hsched : SchedInv s) (htimer : TimerInv s) (hflush : FlushInv s)
    (h : FrameInv s) : FrameInv t := by
  have hgated := writersGated_eq_true.2 hg
  cases he with
  | plane i hopen | ringPush v hopen | diffSwath l hopen => exact absurd (hgated.symm.trans hopen) nofun
  | acquire v | count v => exact (h.acquire v).of_renderRegs rfl rfl rfl rfl
  | tick v hc =>
    have ha : s.renderActive = false := (htimer.singleQuiet (singleTimer_of_countsSamples hc)).1
    have hsched' : SchedInv (s.acquire v).tickDue := (hsched.acquire v).of_renderRegs rfl rfl
    have hflush' : FlushInv (s.acquire v).tickDue :=
      (hflush.acquire v).of_renderRegs rfl rfl rfl rfl (hflush.acquire v).notBoth
    have hframe' : FrameInv (s.acquire v).tickDue := (h.acquire v).of_renderRegs rfl rfl rfl rfl
    exact (hframe'.runTickAtomic hsched' hflush' ((s.acquire_renderActive v).trans ha)).of_renderRegs rfl rfl rfl rfl
  | _ => exact h.of_renderRegs rfl rfl rfl rfl

theorem FrameInv.renderTurn {s t : State} (hsched : SchedInv s) (hflush : FlushInv s) (h : FrameInv s)
    (he : renderTurn s = .next t) : FrameInv t := by
  obtain ⟨-, hr⟩ | ⟨-, -, hr⟩ | ⟨-, -, hr⟩ := renderTurn_cases s <;> cases hr.symm.trans he
  · exact h
  · exact h.renderStep hsched hflush

/-- Settles O48, by the cases of a step: a render step keeps the invariant phase by phase, and a command cannot write
the buffers the scheduler owns. -/
theorem stepsKeepTheFrameInAgreement : Obligations.StepsKeepTheFrameInAgreement := by
  intro s t hsched htimer hflush hframe hg h
  have hsched' (rest) : SchedInv (s.withPending rest) := hsched.of_renderRegs rfl rfl
  have htimer' (rest) : TimerInv (s.withPending rest) := htimer.of_quiet rfl rfl rfl fun _ hr => hr
  have hflush' (rest) : FlushInv (s.withPending rest) := hflush.of_renderRegs rfl rfl rfl rfl hflush.notBoth
  have hframe' (rest) : FrameInv (s.withPending rest) := hframe.of_renderRegs rfl rfl rfl rfl
  obtain ⟨-, ht⟩ | ⟨rest, -, ht⟩ | ⟨rest, -, rfl⟩ | ⟨cw, rest, e, -, -, rfl⟩ | ⟨cw, rest, i, -, -, he⟩ :=
    step_next_cases h
  · exact hframe.renderTurn hsched hflush ht
  · exact (hframe' rest).renderTurn (hsched' rest) (hflush' rest) ht
  · exact .resetWith s.cfg rest
  · exact (hframe' rest).of_renderRegs rfl rfl rfl rfl
  · obtain heffect | ⟨k, rfl⟩ := exec_next_cases he
    · exact heffect.keeps_frameInv hg (hsched' rest) (htimer' rest) (hflush' rest) (hframe' rest)
    · exact (hframe' rest).of_renderRegs rfl rfl rfl rfl

/-! ### Preemption -/

/-- Between two steps of the single-timer configuration no tick runs, so no transmission is in progress and the bus is
free (`44_render_scheduler.md` R227). -/
theorem FlushInv.singleTimer_busFree {s : State} (hsched : SchedInv s) (htimer : TimerInv s) (h : FlushInv s)
    (hm : s.cfg.schedMode = .singleTimer) : s.rip = false ∧ s.abort = false := by
  have hp : s.flushPhase = .diff := by
    obtain hst | hst := hsched.inactiveStates (htimer.singleQuiet hm).1 <;> exact h.phase_diff (by simp [hst])
  exact h.busFree (by rw [hp]; rfl)

/-- Settles O57: the state before and the state after the step are both between two ticks. -/
theorem singleTimerNeverAborts : Obligations.SingleTimerNeverAborts := by
  intro s t hsched htimer hflush hm h
  obtain ⟨hsched', htimer'⟩ := stepsKeepTheScheduler s t hsched htimer h
  have hflush' := stepsKeepTheFlush s t hsched htimer hflush h
  have hcfg := configurationNeverChanges s t h
  exact ⟨hflush.singleTimer_busFree hsched htimer hm, hflush'.singleTimer_busFree hsched' htimer' (hcfg ▸ hm)⟩

/-- The turn that finds a release remembered past BUS_CMD (`44_render_scheduler.md` R208). -/
theorem renderTurn_of_abort {s : State} (hd : s.cfg.schedMode = .dualTimer) (hact : s.renderActive = true)
    (hst : s.schedState = .swathFlush) (hp : pastBusCmd s.flushPhase = true) (ha : s.abort = true) :
    renderTurn s = .next s.abortStep := by
  rw [renderTurn_of_active hd hact (by simp [hst]), State.renderStep_of_swathFlush hact hst,
    State.flushStep_of_abort hp ha]

/-- The turn that compares the swath (`44_render_scheduler.md` R207). -/
theorem renderTurn_of_diff {s : State} (hd : s.cfg.schedMode = .dualTimer) (hact : s.renderActive = true)
    (hst : s.schedState = .swathFlush) (hp : s.flushPhase = .diff) : renderTurn s = .next s.diffStep := by
  rw [renderTurn_of_active hd hact (by simp [hst]), State.renderStep_of_swathFlush hact hst,
    State.flushStep_of_diff hp]

theorem ne_diff_of_pastBusCmd {p : FlushPhase} (hp : pastBusCmd p = true) : p ≠ .diff := by
  rintro rfl
  exact absurd hp nofun

/-- ACQ_SAMPLE in a transmission releases the bus, the next turn restarts the swath with no bus event, and the turn
after it compares the swath again (`44_render_scheduler.md` R208, R219). -/
theorem preemption_rediffs_swath {s : State} (v : Sample) (hd : s.cfg.schedMode = .dualTimer) (hflush : FlushInv s)
    (hact : s.renderActive = true) (hst : s.schedState = .swathFlush) (hp : pastBusCmd s.flushPhase = true)
    (ha : s.abort = false) :
    ∃ u w x, exec (.acqSample v) s = .next u ∧ u.buslog = s.buslog ++ [0x6000#16] ∧ u.rip = false ∧ u.abort = true ∧
      renderTurn u = .next w ∧ w.buslog = u.buslog ∧ renderTurn w = .next x ∧ x.opsLeft = s.opsLeft ∧
      ∀ q, rowSent x.ops q = swathDiffers s s.opsLeft.toNat q := by
  have hrip := hflush.busHeld hp ha
  obtain ⟨hleft, -⟩ := hflush.opsSwath (ne_diff_of_pastBusCmd hp)
  have huncounted : countsSamples s = false := by simp [countsSamples, hd]
  have habort : (s.sampled v s.tickcnt).abort = true := by simp [State.sampled, hrip]
  obtain ⟨hops, hopsLeft⟩ := (s.sampled v s.tickcnt).abortStep.diffStep_ops
  refine ⟨_, _, _, exec_acqSample_uncounted huncounted v, ?log, rfl, habort,
    renderTurn_of_abort (s := s.sampled v s.tickcnt) hd hact hst hp habort, rfl,
    renderTurn_of_diff (s := (s.sampled v s.tickcnt).abortStep) hd hact hst rfl, ?left, fun q => ?rows⟩
  case log => simp [State.sampled, hrip, busWord]
  case left =>
    rw [hopsLeft]
    change BitVec.ofNat 7 s.flushLeft = s.opsLeft
    rw [← hleft, BitVec.ofNat_toNat, BitVec.setWidth_eq]
  case rows =>
    rw [hops, rowSent_diffSwath, hleft]
    exact swathDiffers_of_planes rfl _ q

/-- Settles O51: the restarted diff covers the rows that differ, which the frame's invariant says are those not yet
written, and of which ROW_WR has just taken its own. -/
theorem preemptedSwathResendsTheRest : Obligations.PreemptedSwathResendsTheRest := by
  refine ⟨fun s v hd _ hflush hframe hact hst hp ha => ?anyPhase, fun s v hd _ hflush hact hst hp ha => ?rowWr⟩
  case anyPhase =>
    obtain ⟨u, w, x, hacq, hlog, hrip, habort, hrestart, hsilent, hcompare, hleft, hrows⟩ :=
      preemption_rediffs_swath v hd hflush hact hst hp ha
    exact ⟨u, w, x, hacq, hlog, hrip, habort, hrestart, hsilent, hcompare, hleft, fun q hq =>
      ⟨hrows q, (hrows q).trans (hframe.toSend q hq (ne_diff_of_pastBusCmd hp))⟩⟩
  case rowWr =>
    have hstep : s.renderStep = s.rowWrStep :=
      (State.renderStep_of_swathFlush hact hst).trans (State.flushStep_of_no_abort hp ha)
    have hpast : pastBusCmd s.rowWrStep.flushPhase = true := by
      obtain ⟨-, ⟨-, -, -, hnext⟩ | ⟨-, hnext⟩⟩ := ((s.emit (.write (rowByte s.ops s.flushRow.toNat))).commitRow
        s.opsLeft.toNat s.flushRow.toNat).toRow_spec (s.flushRow.toNat + 1)
      all_goals exact congrArg pastBusCmd hnext
    obtain ⟨u, w, x, hacq, -, -, -, hrestart, -, hcompare, hleft, hrows⟩ :=
      preemption_rediffs_swath (s := s.rowWrStep) v hd (hflush.rowWrStep hp ha) hact hst hpast ha
    exact ⟨s.rowWrStep, u, w, x, hstep ▸ renderTurn_of_active hd hact (by simp [hst]), hacq, hrestart, hcompare, hleft,
      fun q _ => (hrows q).trans (swathDiffers_rowWrStep hflush.opsLeftEven q)⟩

end Sys2Proof.Machine
end

section
/-! PROOF. Register access: the word of each register as the number that `45_register_access.md` R250 gives, the
register numbers that the map lists, and the faults of the others. -/

namespace Sys2Proof.Machine

open Sys2Proof

/-! ### Fields as numbers -/

/-- Two fields side by side: the upper one counts in units of the lower one's range. -/
theorem toNat_append_eq_add {m n : Nat} (x : BitVec m) (y : BitVec n) :
    (x ++ y).toNat = x.toNat * 2 ^ n + y.toNat := by
  rw [BitVec.toNat_append, ← Nat.shiftLeft_add_eq_or_of_lt y.isLt, Nat.shiftLeft_eq]

@[simp] theorem bit1_toNat (b : Bool) : (bit1 b).toNat = natOfBool b := by
  cases b <;> rfl

@[simp] theorem schedStateBits_toNat (p : SchedState) : (schedStateBits p).toNat = schedStateNumber p := by
  cases p <;> rfl

@[simp] theorem flushPhaseBits_toNat (p : FlushPhase) : (flushPhaseBits p).toNat = flushPhaseNumber p := by
  cases p <;> rfl

@[simp] theorem colsPerTickBits_toNat (c : Config) : (colsPerTickBits c.colsPerTick).toNat = colsPerTickOf c := by
  unfold colsPerTickOf
  cases c.colsPerTick <;> rfl

/-! ### Words as numbers -/

theorem eq_ofNat_of_toNat {w : Word32} {n : Nat} (h : w.toNat = n) : w = BitVec.ofNat 32 n := by
  rw [← h, BitVec.ofNat_toNat, BitVec.setWidth_eq]

theorem ctrlWord_eq_ofNat (s : State) : ctrlWord s = BitVec.ofNat 32 (natOfBool s.schedEn) := by
  apply eq_ofNat_of_toNat
  rw [ctrlWord, toNat_append_eq_add, bit1_toNat]
  exact Nat.zero_add _

theorem statusWord_eq_ofNat (s : State) : statusWord s = BitVec.ofNat 32 (statusNumber s) := by
  apply eq_ofNat_of_toNat
  simp only [statusWord, toNat_append_eq_add, bit1_toNat, schedStateBits_toNat, BitVec.toNat_ofNat, statusNumber]
  omega

theorem configWord_eq_ofNat (c : Config) : configWord c = BitVec.ofNat 32 (configNumber c) := by
  apply eq_ofNat_of_toNat
  simp only [configWord, toNat_append_eq_add, bit1_toNat, colsPerTickBits_toNat, BitVec.toNat_ofNat, configNumber]
  omega

theorem faultInfoWord_eq_ofNat (f : FaultInfo) :
    faultInfoWord f = BitVec.ofNat 32 (f.code.toNat + 256 * f.opc.toNat + 65536 * f.a.toNat) := by
  apply eq_ofNat_of_toNat
  simp only [faultInfoWord, toNat_append_eq_add, BitVec.toNat_ofNat]
  omega

theorem flushWord_eq_ofNat (s : State) :
    flushWord s = BitVec.ofNat 32 (flushPhaseNumber s.flushPhase + 256 * s.flushRow.toNat) := by
  apply eq_ofNat_of_toNat
  simp only [flushWord, toNat_append_eq_add, flushPhaseBits_toNat, BitVec.toNat_ofNat]
  omega

theorem maskLo_eq_ofNat (m : Column) : maskLo m = BitVec.ofNat 32 (m.toNat % 2 ^ 32) :=
  eq_ofNat_of_toNat (BitVec.extractLsb'_toNat ..)

theorem maskHi_eq_ofNat (m : Column) : maskHi m = BitVec.ofNat 32 (m.toNat / 2 ^ 32) := by
  apply eq_ofNat_of_toNat
  rw [maskHi, BitVec.extractLsb'_toNat, Nat.shiftRight_eq_div_pow, Nat.mod_eq_of_lt]
  omega

/-! ### The map -/

/-- Every row of the map of `45_register_access.md` R250 shows the value of its register: a composed word, a number of
the configuration, or a register of the state extended with zeros. -/
theorem regValue_of_mem_registerMap {s : State} {e : Byte × Nat} (he : e ∈ registerMap s) :
    regValue e.1 s = some (BitVec.ofNat 32 e.2) := by
  revert e
  simp only [registerMap, List.forall_mem_cons]
  simp [regValue, ctrlWord_eq_ofNat, statusWord_eq_ofNat, configWord_eq_ofNat, faultInfoWord_eq_ofNat,
    flushWord_eq_ofNat, maskLo_eq_ofNat, maskHi_eq_ofNat]

/-- The map lists the numbers 0x00 to 0x09 and 0x10 to 0x20. -/
theorem mem_registerMap_iff {n : Byte} {s : State} :
    n ∈ (registerMap s).map Prod.fst ↔ regWellFormed n = true := by
  simp only [registerMap, List.map_cons, List.map_nil, List.mem_cons, List.not_mem_nil, or_false, ← BitVec.toNat_inj,
    BitVec.toNat_ofNat, regWellFormed, Bool.or_eq_true, Bool.and_eq_true, decide_eq_true_eq]
  omega

/-- A number outside the map has no value. -/
theorem regValue_eq_none {n : Byte} {s : State} (h : n ∉ (registerMap s).map Prod.fst) : regValue n s = none := by
  rw [← Option.isNone_iff_eq_none, ← Option.not_isSome, regValue_isSome]
  simpa using mt mem_registerMap_iff.2 h

/-! ### Faults of class ERR_ILLEGAL -/

/-- A fault belongs to one class (`60_exceptions.md` R260). -/
theorem other_classes_of_setsErrIllegal {k : FaultCode} (hk : setsErrIllegal k = true) :
    setsErrRange k = false ∧ setsErrBusy k = false := by
  revert hk
  cases k <;> decide

/-- A fault of class ERR_ILLEGAL sets its bit and the record, nothing else (`60_exceptions.md` R260, R263). -/
theorem faultOf_illegal (i : Instr) {k : FaultCode} (hk : setsErrIllegal k = true) (s : State) :
    faultOf i k s = .next (afterIllegal (faultNumber k) i s) := by
  obtain ⟨hrange, hbusy⟩ := other_classes_of_setsErrIllegal hk
  simp [faultOf, State.raiseFault, afterIllegal, firstFault, hk, hrange, hbusy]

/-! ### REG_READ -/

theorem exec_regRead_unlisted {n : Byte} {s : State} (h : n ∉ (registerMap s).map Prod.fst) :
    exec (.regRead n) s = .next (afterIllegal 6#8 (.regRead n) s) := by
  simp only [exec, execRegRead, regValue_eq_none h]
  exact faultOf_illegal (.regRead n) (k := .badReg) rfl s

/-- Settles O28: a listed register is read with its value, any other number faults. -/
theorem regReadReturnsTheMap : Obligations.RegReadReturnsTheMap :=
  fun _ => ⟨fun _ he => exec_regRead_of_regValue (regValue_of_mem_registerMap he), fun _ => exec_regRead_unlisted⟩

/-! ### REG_WRITE -/

theorem exec_regWrite_ctrl (v : Word32) (s : State) :
    exec (.regWrite 0#8 v) s = .next ((s.writeCtrl v).setResult 0#32) := rfl

/-- The bad number is found before the missing right to write (`45_register_access.md` R252). -/
theorem exec_regWrite_unlisted {n : Byte} {s : State} (h : n ∉ (registerMap s).map Prod.fst) (v : Word32) :
    exec (.regWrite n v) s = .next (afterIllegal 6#8 (.regWrite n v) s) := by
  simp only [exec, execRegWrite, regValue_eq_none h]
  exact faultOf_illegal (.regWrite n v) (k := .badReg) rfl s

theorem exec_regWrite_readOnly {n : Byte} {s : State} (h : n ∈ (registerMap s).map Prod.fst) (h0 : n ≠ 0#8)
    (v : Word32) : exec (.regWrite n v) s = .next (afterIllegal 7#8 (.regWrite n v) s) := by
  obtain ⟨e, he, rfl⟩ := List.mem_map.1 h
  simp only [exec, execRegWrite, regValue_of_mem_registerMap he, if_neg h0]
  exact faultOf_illegal (.regWrite e.1 v) (k := .roWrite) rfl s

/-- Settles O29: CTRL takes bit 0 and keeps a request only with it; another number is listed and read-only, or bad. -/
theorem regWriteWritesCtrlOnly : Obligations.RegWriteWritesCtrlOnly := by
  refine fun s v => ⟨?ctrl, fun n hn => ?other⟩
  case ctrl =>
    have hreq : (s.renderReq && v.getLsbD 0) = if v.getLsbD 0 then s.renderReq else false := by
      cases v.getLsbD 0 <;> simp
    rw [exec_regWrite_ctrl, ← hreq]
    rfl
  case other =>
    split
    case isTrue hlisted => exact exec_regWrite_readOnly hlisted hn v
    case isFalse hunlisted => exact exec_regWrite_unlisted hunlisted v

end Sys2Proof.Machine
end

section
/-! PROOF. The fault table: what each fault of a command presupposes, and that a command raises no other fault
(`60_exceptions.md` R260, R261). -/

namespace Sys2Proof.Machine

open Sys2Proof

/-! ### The table -/

/-- The rows of the fault table that a decoded command can meet: the fault, the command and its cause
(`60_exceptions.md` R260). -/
inductive FaultCause (s : State) : Instr → FaultCode → Prop
  | busy (i : Instr) (hi : isGatedWriter i = true) (hg : writersGated s = true) : FaultCause s i .busy
  | range (i : Instr) (hr : rangeViolation i = true) : FaultCause s i .range
  | mode (hm : s.cfg.schedMode = .singleTimer) : FaultCause s .renderTick .mode
  | readBadReg (n : Byte) (hn : n ∉ (registerMap s).map Prod.fst) : FaultCause s (.regRead n) .badReg
  | writeBadReg (n : Byte) (v : Word32) (hn : n ∉ (registerMap s).map Prod.fst) : FaultCause s (.regWrite n v) .badReg
  | writeReadOnly (n : Byte) (v : Word32) (hn : n ≠ 0#8) : FaultCause s (.regWrite n v) .roWrite

/-- The command left the fault registers alone, or raised a fault whose cause the table lists. -/
def FaultsByTable (i : Instr) (s t : State) : Prop :=
  t.faultRegs = s.faultRegs ∨ ∃ k, FaultCause s i k ∧ t = s.raiseFault k (opcodeByte i) (aField i)

theorem CommandEffect.faultsByTable {i : Instr} {s t : State} (h : CommandEffect s i t) : FaultsByTable i s t := by
  obtain ⟨-, hfaults, -⟩ := h.keeps_cfg_faults_pending
  exact .inl hfaults

theorem FaultCause.faultsByTable {i : Instr} {k : FaultCode} {s t : State} (hk : FaultCause s i k)
    (h : faultOf i k s = .next t) : FaultsByTable i s t := by
  cases h
  exact .inr ⟨k, hk, rfl⟩

/-! ### The checks -/

/-- A gated writer raises BUSY while gated; else its effect decides. -/
theorem gatedWriter_faultsByTable {i : Instr} {s t : State} {e : Host.Outcome State Fault Refusal}
    (hi : isGatedWriter i = true) (h : gatedWriter i s e = .next t) (effect : e = .next t → FaultsByTable i s t) :
    FaultsByTable i s t := by
  obtain ⟨hg, rfl⟩ | ⟨-, he⟩ := gatedWriter_next h
  · exact .inr ⟨.busy, .busy i hi hg, rfl⟩
  · exact effect he

/-- A check of the operands before an effect: RANGE only for operands out of range. -/
theorem checked_faultsByTable {c : Prop} [Decidable c] {i : Instr} {s t u : State}
    (hout : ¬ c → rangeViolation i = true) (h : (if c then .next u else faultOf i .range s) = .next t)
    (hu : u.faultRegs = s.faultRegs) : FaultsByTable i s t := by
  split at h
  case isTrue =>
    cases h
    exact .inl hu
  case isFalse hc => exact (FaultCause.range i (hout hc)).faultsByTable h

theorem coord_violation {col row : Byte} (h : ¬ coordInRange col row = true) :
    (decide (128 ≤ col.toNat) || decide (64 ≤ row.toNat)) = true := by
  rw [coordInRange_iff] at h
  simp only [Bool.or_eq_true, decide_eq_true_eq]
  omega

theorem leftCol_violation {l : Byte} (h : ¬ leftColInRange l = true) :
    (decide (126 < l.toNat) || decide (l.toNat % 2 = 1)) = true := by
  rw [leftColInRange_iff] at h
  simp only [Bool.or_eq_true, decide_eq_true_eq]
  omega

theorem col_violation {col : Byte} (h : ¬ colInRange col = true) : decide (128 ≤ col.toNat) = true := by
  rw [colInRange_iff] at h
  exact decide_eq_true (by omega)

/-- The map lists no number without a value. -/
theorem unlisted_of_regValue_eq_none {n : Byte} {s : State} (h : regValue n s = none) :
    n ∉ (registerMap s).map Prod.fst := by
  intro hmem
  obtain ⟨e, he, rfl⟩ := List.mem_map.1 hmem
  cases h.symm.trans (regValue_of_mem_registerMap he)

theorem execRenderTick_faultsByTable {s t : State} (h : execRenderTick s = .next t) :
    FaultsByTable .renderTick s t := by
  unfold execRenderTick at h
  split at h
  case h_1 hm => exact (FaultCause.mode hm).faultsByTable h
  case h_2 =>
    cases h
    exact .inl rfl

theorem execRegRead_faultsByTable {n : Byte} {s t : State} (h : execRegRead n s = .next t) :
    FaultsByTable (.regRead n) s t := by
  unfold execRegRead at h
  split at h
  case h_1 =>
    cases h
    exact .inl rfl
  case h_2 hnone => exact (FaultCause.readBadReg n (unlisted_of_regValue_eq_none hnone)).faultsByTable h

theorem execRegWrite_faultsByTable {n : Byte} {v : Word32} {s t : State} (h : execRegWrite n v s = .next t) :
    FaultsByTable (.regWrite n v) s t := by
  unfold execRegWrite at h
  split at h
  case h_1 hnone => exact (FaultCause.writeBadReg n v (unlisted_of_regValue_eq_none hnone)).faultsByTable h
  case h_2 =>
    split at h
    case isTrue =>
      cases h
      exact .inl rfl
    case isFalse hn => exact (FaultCause.writeReadOnly n v hn).faultsByTable h

/-! ### The commands -/

/-- A command raises a fault only for a cause of the table. -/
theorem exec_faultsByTable {i : Instr} {s t : State} (h : exec i s = .next t) : FaultsByTable i s t := by
  cases i with
  | ringAt | opsIsBlank | zoomSet => cases h; exact .inl rfl
  | acqSample v => exact (execAcqSample_effect h).faultsByTable
  | pxPeek | pxPeekLive => exact checked_faultsByTable coord_violation h rfl
  | zoomOffset => exact checked_faultsByTable col_violation h rfl
  | pxPoke => exact gatedWriter_faultsByTable rfl h fun he => checked_faultsByTable coord_violation he rfl
  | diffSwath => exact gatedWriter_faultsByTable rfl h fun he => checked_faultsByTable leftCol_violation he rfl
  | ringPush | pxClear | pxSwap => exact gatedWriter_faultsByTable rfl h fun he => by cases he; exact .inl rfl
  | swathRender =>
    refine gatedWriter_faultsByTable rfl h fun he => ?_
    cases he
    rw [State.performItems_frame]
    exact .inl rfl
  | renderTick => exact execRenderTick_faultsByTable h
  | regRead n => exact execRegRead_faultsByTable h
  | regWrite n v => exact execRegWrite_faultsByTable h

/-! ### The error bits -/

theorem FaultCause.of_setsErrBusy {i : Instr} {k : FaultCode} {s : State} (h : FaultCause s i k)
    (hk : setsErrBusy k = true) : isGatedWriter i = true ∧ (s.schedEn = true ∨ s.renderActive = true) := by
  cases h with
  | busy _ hi hg => exact ⟨hi, (Bool.or_eq_true ..).mp hg⟩
  | _ => cases hk

theorem FaultCause.of_setsErrRange {i : Instr} {k : FaultCode} {s : State} (h : FaultCause s i k)
    (hk : setsErrRange k = true) : rangeViolation i = true := by
  cases h with
  | range _ hr => exact hr
  | _ => cases hk

/-- The map lists CTRL's number. -/
theorem ne_ctrl_of_unlisted {n : Byte} {s : State} (h : n ∉ (registerMap s).map Prod.fst) : n ≠ 0#8 := by
  rintro rfl
  exact h (mem_registerMap_iff.2 rfl)

theorem FaultCause.of_setsErrIllegal {i : Instr} {k : FaultCode} {s : State} (h : FaultCause s i k)
    (hk : setsErrIllegal k = true) :
    (i = .renderTick ∧ s.cfg.schedMode = .singleTimer) ∨
      (∃ n, i = .regRead n ∧ n ∉ (registerMap s).map Prod.fst) ∨ ∃ n v, i = .regWrite n v ∧ n ≠ 0#8 := by
  cases h with
  | busy | range => cases hk
  | mode hm => exact .inl ⟨rfl, hm⟩
  | readBadReg n hn => exact .inr (.inl ⟨n, rfl, hn⟩)
  | writeBadReg n v hn => exact .inr (.inr ⟨n, v, rfl, ne_ctrl_of_unlisted hn⟩)
  | writeReadOnly n v hn => exact .inr (.inr ⟨n, v, rfl, hn⟩)

/-- A bit that a disjunction changed is set by the other disjunct. -/
theorem eq_true_of_or_ne {a b : Bool} (h : (a || b) ≠ a) : b = true := by
  cases b
  · exact absurd (Bool.or_false a) h
  · rfl

/-- Settles O41: a fault sets only the bit of its own class, and each fault of a command has a cause of the table. -/
theorem faultsOnlyAsTheTableAllows : Obligations.FaultsOnlyAsTheTableAllows := by
  intro i s t h
  obtain hkept | ⟨k, hcause, rfl⟩ := exec_faultsByTable h
  · obtain ⟨hillegal, hrange, hbusy, -⟩ := State.faultRegs_eq_iff.1 hkept
    exact ⟨absurd hbusy, absurd hrange, absurd hillegal⟩
  · exact ⟨fun hne => hcause.of_setsErrBusy (eq_true_of_or_ne hne),
      fun hne => hcause.of_setsErrRange (eq_true_of_or_ne hne),
      fun hne => hcause.of_setsErrIllegal (eq_true_of_or_ne hne)⟩

end Sys2Proof.Machine
end

section
/-! PROOF. The block never stops: every port event is answered with a next state (`60_exceptions.md` R263,
`70_reset_and_hazards.md` R304), and the state after reset meets every invariant (`70_reset_and_hazards.md` R292). -/

namespace Sys2Proof.Machine

open Sys2Proof

/-! ### Every event is answered -/

/-- The outcome is a next state, neither a stop of the machine nor a refusal. -/
def Answers (o : Host.Outcome State Fault Refusal) : Prop := ∃ t, o = .next t

theorem answers_next (t : State) : Answers (.next t) := ⟨t, rfl⟩

/-- A fault leaves a record and the block goes on (`60_exceptions.md` R263). -/
theorem answers_faultOf (i : Instr) (k : FaultCode) (s : State) : Answers (faultOf i k s) := ⟨_, rfl⟩

/-- A check before an effect answers, passed or not. -/
theorem answers_checked {c : Prop} [Decidable c] (i : Instr) (k : FaultCode) (s u : State) :
    Answers (if c then .next u else faultOf i k s) := by
  split
  · exact answers_next u
  · exact answers_faultOf i k s

/-- A gated writer answers with BUSY or with its effect (`60_exceptions.md` R261). -/
theorem answers_gatedWriter (i : Instr) (s : State) {e : Host.Outcome State Fault Refusal} (he : Answers e) :
    Answers (gatedWriter i s e) := by
  unfold gatedWriter
  split
  · exact answers_faultOf i .busy s
  · exact he

/-- Every command answers, from every state and with any operands. -/
theorem exec_answers (i : Instr) (s : State) : Answers (exec i s) := by
  cases i with
  | ringPush v => exact answers_gatedWriter _ s (answers_next _)
  | ringAt o => exact answers_next _
  | pxPeek c r => exact answers_checked ..
  | pxPoke c r v => exact answers_gatedWriter _ s (answers_checked ..)
  | pxClear => exact answers_gatedWriter _ s (answers_next _)
  | pxSwap => exact answers_gatedWriter _ s (answers_next _)
  | pxPeekLive c r => exact answers_checked ..
  | diffSwath l => exact answers_gatedWriter _ s (answers_checked ..)
  | opsIsBlank => exact answers_next _
  | swathRender => exact answers_gatedWriter _ s (answers_next _)
  | zoomSet f => exact answers_next _
  | zoomOffset c => exact answers_checked ..
  | acqSample v => exact answers_next _
  | renderTick =>
    simp only [exec, execRenderTick]
    split
    · exact answers_faultOf ..
    · exact answers_next _
  | regRead n =>
    simp only [exec, execRegRead]
    split
    · exact answers_next _
    · exact answers_faultOf ..
  | regWrite n v =>
    simp only [exec, execRegWrite]
    split
    · exact answers_faultOf ..
    · exact answers_checked ..

theorem runCommand_answers (cw : Word) (s : State) : Answers (runCommand cw s) := by
  obtain ⟨i, -, hr⟩ | ⟨e, -, hr⟩ := runCommand_cases cw s <;> rw [hr]
  · exact exec_answers i s
  · exact answers_next _

/-- A legal micro-state with RENDER_ACTIVE = 1 has a line of R203, so the RENDER agent's turn never stops the block
(log 7). -/
theorem SchedInv.renderTurn_answers {s : State} (h : SchedInv s) : Answers (renderTurn s) := by
  obtain ⟨-, hr⟩ | ⟨-, -, hr⟩ | ⟨-, hline, -⟩ := renderTurn_cases s
  · exact ⟨s, hr⟩
  · exact ⟨s.renderStep, hr⟩
  · simp only [State.renderHasNoLine, Bool.and_eq_true, decide_eq_true_eq] at hline
    obtain ⟨hact, hidle⟩ := hline
    exact absurd (hact.symm.trans (h.idleInactive hidle)) nofun

theorem SchedInv.runEvent_answers {s : State} (h : SchedInv s) (e : PortEvent) : Answers (runEvent e s) := by
  cases e with
  | command cw => exact runCommand_answers cw s
  | renderTurn => exact h.renderTurn_answers
  | reset => exact answers_next _

/-- Settles O52: a step is a port event or a turn of the RENDER agent, and each is answered from a legal micro-state. -/
theorem theBlockNeverStops : Obligations.TheBlockNeverStops := by
  intro s h
  cases hp : s.pending with
  | nil =>
    rw [step_of_nil hp]
    exact h.renderTurn_answers
  | cons e rest =>
    rw [step_of_cons hp]
    have hrest : SchedInv (s.withPending rest) := h.of_renderRegs rfl rfl
    exact hrest.runEvent_answers e

/-! ### The state after reset -/

theorem ZoomInv.resetWith (c : Config) (p : List PortEvent) : ZoomInv (State.resetWith c p) :=
  ⟨zoomLegal_one c, zoomLegal_one c⟩

theorem BlockInv.resetWith (c : Config) (p : List PortEvent) : BlockInv (State.resetWith c p) where
  ring := .resetWith c p
  zoom := .resetWith c p
  sched := .resetWith c p
  flush := .resetWith c p
  timer := .resetWith c p
  fault := .resetWith c p
  bus := .resetWith c p

/-- Settles O50: reset meets each invariant, and `State.reset` is the reset of one configuration. -/
theorem resetMeetsTheInvariants : Obligations.ResetMeetsTheInvariants :=
  ⟨fun c p => ⟨.resetWith c p, .resetWith c p⟩, .resetWith Config.atReset [], .resetWith Config.atReset []⟩

end Sys2Proof.Machine
end

section
/-! PROOF. Endless runs built state by state, and the two ways in which an endless host stream stops progress: commands
that keep the RENDER agent waiting, and a preemption in every transmission (`70_reset_and_hazards.md` R300). -/

namespace Sys2Proof.Machine

open Sys2Proof

/-! ### Runs from a state -/

/-- The states from `s` on over an interleaving; a state whose event is not answered stays. -/
def runFrom (s : State) (events : Nat → PortEvent) : Nat → State
  | 0 => s
  | n + 1 =>
    match runEvent (events n) (runFrom s events n) with
    | .next t => t
    | .fault _ => runFrom s events n
    | .refused _ => runFrom s events n

theorem runFrom_succ {s t : State} {events : Nat → PortEvent} {n : Nat}
    (h : runEvent (events n) (runFrom s events n) = .next t) : runFrom s events (n + 1) = t := by
  simp only [runFrom, h]

/-- If every event is answered by a state with the next property, the states from `s` on are a run, and each has its
property. -/
theorem runFrom_invariant {s : State} {events : Nat → PortEvent} {P : Nat → State → Prop} (start : P 0 s)
    (next : ∀ n u, P n u → ∃ v, runEvent (events n) u = .next v ∧ P (n + 1) v) :
    IsRun (runFrom s events) events ∧ ∀ n, P n (runFrom s events n) := by
  have hkept : ∀ n, P n (runFrom s events n) := fun n => by
    induction n with
    | zero => exact start
    | succ n ih =>
      obtain ⟨v, hv, hP⟩ := next n _ ih
      rwa [runFrom_succ hv]
  refine ⟨fun n => ?_, hkept⟩
  obtain ⟨v, hv, -⟩ := next n _ (hkept n)
  rw [step_arrive, hv, runFrom_succ hv]

/-- A command issued as its encoding is run (`30_encoding.md` R89). -/
theorem runEvent_encode (i : Instr) (s : State) : runEvent (.command (encode i)) s = exec i s :=
  runCommand_of_decode (encodedCommandsDecodeBack i) s

/-! ### Starvation -/

/-- A host that only issues a read command, for ever. -/
def readStream (_ : Nat) : PortEvent := .command (encode .opsIsBlank)

/-- A host that only reads keeps every state as it was but for RESULT (`20_memory.md` R69). -/
theorem runFrom_readStream (s : State) :
    IsRun (runFrom s readStream) readStream ∧
      ∀ n, runFrom s readStream n = { s with result := (runFrom s readStream n).result } :=
  runFrom_invariant (P := fun _ u => u = { s with result := u.result }) rfl fun _ u hu =>
    ⟨u.setResult (u32OfBit (isBlank u.ops)), (runEvent_encode _ u).trans (readsInto_opsIsBlank.answers u), by
      rw [hu]; rfl⟩

/-- An interleaving without a turn of the RENDER agent is not fair to an agent that always has a step. -/
theorem not_weaklyFair_of_starved {σ : Nat → State} {events : Nat → PortEvent}
    (hen : ∀ n, (σ n).renderEnabled = true) (hturn : ∀ n, events n ≠ .renderTurn) : ¬ WeaklyFair σ events := by
  intro hfair
  obtain ⟨m, -, hm⟩ := hfair 0 fun m _ => hen m
  exact hturn m hm

/-! ### Livelock -/

/-- The swath has a row to send, so its diff is not blank (`41_diff_engine.md` R143). -/
theorem not_isBlank_diffSwath {s : State} {l r : Nat} (hr : r < 64) (hdiffers : swathDiffers s l r = true) :
    ¬ isBlank (s.diffSwath l) = true := by
  intro hblank
  have hsilent := (isBlank_iff _).1 hblank r hr
  rw [rowAny_eq_rowSent, rowSent_diffSwath, hdiffers] at hsilent
  exact absurd hsilent nofun

/-- Where the flush stands in the four steps of the endless preemption: before DiffStep, before BusCmdStep, with the
bus held before the ACQ_SAMPLE, and before AbortStep. -/
def PreemptedPhase (u : State) : Nat → Prop
  | 0 => u.flushPhase = .diff
  | 1 => u.flushPhase = .busCmd
  | 2 => u.flushPhase = .busSelCol ∧ u.rip = true
  | _ => u.flushPhase = .busSelCol ∧ u.abort = true

/-- The state before step `n` of the endless preemption of the swath that `s` stands before: nothing that DiffStep reads
has changed. -/
structure PreemptedAt (s : State) (n : Nat) (u : State) : Prop where
  cfg : u.cfg = s.cfg
  active : u.renderActive = true
  flushing : u.schedState = .swathFlush
  column : u.schedCol = s.schedCol
  planes : u.planes = s.planes
  phase : PreemptedPhase u (n % 4)

/-- Four steps of the endless preemption come back to the DiffStep, with no row written (`70_reset_and_hazards.md`
R300). -/
theorem PreemptedAt.next {s u : State} {n : Nat} (samples : Nat → Sample) (hd : s.cfg.schedMode = .dualTimer)
    (hrows : ∃ r < 64, swathDiffers s s.flushLeft r = true) (h : PreemptedAt s n u) :
    ∃ v, runEvent (preemptionStream samples n) u = .next v ∧ PreemptedAt s (n + 1) v := by
  obtain ⟨hcfg, hact, hst, hcol, hplanes, hphase⟩ := h
  have hdual : u.cfg.schedMode = .dualTimer := hcfg ▸ hd
  have turn : n % 4 ≠ 2 → runEvent (preemptionStream samples n) u = .next u.flushStep := fun hn => by
    rw [preemptionStream, if_neg hn, ← State.renderStep_of_swathFlush hact hst]
    exact renderTurn_of_active hdual hact (by simp [hst])
  obtain hn | hn | hn | hn : n % 4 = 0 ∨ n % 4 = 1 ∨ n % 4 = 2 ∨ n % 4 = 3 := by omega
  all_goals rw [hn] at hphase
  · -- DiffStep: the swath still differs, so it is not skipped
    obtain ⟨r, hr, hdiffers⟩ := hrows
    have hleft : u.flushLeft = s.flushLeft := by rw [State.flushLeft, hcol, State.flushLeft]
    have hblank : ¬ isBlank (u.diffSwath u.flushLeft) = true :=
      not_isBlank_diffSwath hr (by rw [hleft, swathDiffers_of_planes hplanes, hdiffers])
    refine ⟨_, turn (by omega), ?_⟩
    rw [State.flushStep_of_diff hphase, State.diffStep_of_not_blank hblank]
    exact ⟨hcfg, hact, hst, hcol, hplanes, by rw [show (n + 1) % 4 = 1 by omega]; rfl⟩
  · -- BusCmdStep: the bus is held
    refine ⟨_, turn (by omega), ?_⟩
    rw [State.flushStep_of_busCmd hphase]
    exact ⟨hcfg, hact, hst, hcol, hplanes, by rw [show (n + 1) % 4 = 2 by omega]; exact ⟨rfl, rfl⟩⟩
  · -- ACQ_SAMPLE: the bus is released before the first row
    obtain ⟨hp, hrip⟩ := hphase
    have huncounted : countsSamples u = false := by simp [countsSamples, hdual]
    refine ⟨u.sampled (samples (n / 4)) u.tickcnt, ?acquires, hcfg, hact, hst, hcol, hplanes, ?restarts⟩
    case acquires =>
      rw [preemptionStream, if_pos hn, runEvent_encode]
      exact exec_acqSample_uncounted huncounted _
    case restarts =>
      rw [show (n + 1) % 4 = 3 by omega]
      exact ⟨hp, by simp [State.sampled, hrip]⟩
  · -- AbortStep: back to the diff
    obtain ⟨hp, ha⟩ := hphase
    refine ⟨_, turn (by omega), ?_⟩
    rw [State.flushStep_of_abort (by rw [hp]; rfl) ha]
    exact ⟨hcfg, hact, hst, hcol, hplanes, by rw [show (n + 1) % 4 = 0 by omega]; rfl⟩

/-- The endless preemption gives the RENDER agent a turn in every four steps. -/
theorem weaklyFair_preemptionStream (σ : Nat → State) (samples : Nat → Sample) :
    WeaklyFair σ (preemptionStream samples) :=
  fun n _ => ⟨4 * n, by omega, if_neg (by omega)⟩

/-- Settles O59: a host that only reads starves the agent, and the preemption comes back to the same DiffStep for
ever. -/
theorem endlessStreamsCanStopProgress : Obligations.EndlessStreamsCanStopProgress := by
  refine ⟨fun s hen => ?starvation, fun s samples hd _ _ hact hst hp hrows => ?livelock⟩
  case starvation =>
    obtain ⟨hrun, hsame⟩ := runFrom_readStream s
    have henabled : ∀ n, (runFrom s readStream n).renderEnabled = true := fun n => by
      rw [hsame n]
      exact hen
    exact ⟨_, readStream, rfl, hrun, not_weaklyFair_of_starved henabled (fun _ => nofun), fun _ => ⟨_, rfl⟩,
      fun n => ⟨henabled n, hsame n⟩⟩
  case livelock =>
    obtain ⟨hrun, hkept⟩ := runFrom_invariant (s := s) (P := PreemptedAt s) ⟨rfl, hact, hst, rfl, rfl, hp⟩
      fun _ _ => PreemptedAt.next samples hd hrows
    refine ⟨_, rfl, ⟨hrun, weaklyFair_preemptionStream _ samples⟩, fun n => ?_⟩
    obtain ⟨-, hactive, hflushing, hcol, hplanes, -⟩ := hkept n
    obtain ⟨-, -, hpix⟩ := State.pixel_of_planes hplanes
    exact ⟨hactive, hflushing, hcol, hpix⟩

end Sys2Proof.Machine
end

section
/-! PROOF. In a fair run that writes a row before each forced release, the swath completes: each release is paid for by
a committed row, and between two releases every turn of the RENDER agent brings the flush nearer its end
(`70_reset_and_hazards.md` R300). -/

namespace Sys2Proof.Machine

open Sys2Proof

/-! ### Rows still to send -/

theorem SendsTheRest.congr {s t : State} (h : SendsTheRest s) (hplanes : t.planes = s.planes) (hops : t.ops = s.ops)
    (hleft : t.opsLeft = s.opsLeft) (hwritten : ∀ r, notYetWritten t r = notYetWritten s r) : SendsTheRest t :=
  fun r hr => by
    rw [swathDiffers_of_planes hplanes, hops, hleft, hwritten]
    exact h r hr

/-- Going to the next transmitted row leaves the rows from `r` on to send (`44_render_scheduler.md` R210, R214). -/
theorem SendsTheRest.toRow {s : State} {r : Nat}
    (h : ∀ q < 64, swathDiffers s s.opsLeft.toNat q = (rowSent s.ops q && decide (r ≤ q))) : SendsTheRest (s.toRow r) :=
  fun q hq => ((swathDiffers_of_planes rfl _ q).trans (h q hq)).trans (notYetWritten_toRow s r hq).symm

/-- The transmitted rows are those still to send and those written. -/
theorem SendsTheRest.rowsLeft_add_written {s : State} (h : SendsTheRest s) :
    rowsLeft s s.opsLeft.toNat + (List.range 64).countP (fun r => rowSent s.ops r && !notYetWritten s r) =
      sentCount s.ops := by
  have hleft : rowsLeft s s.opsLeft.toNat = (List.range 64).countP fun r => rowSent s.ops r && notYetWritten s r :=
    List.countP_congr fun r hr => by rw [h r (List.mem_range.1 hr)]
  have hsplit := List.countP_eq_countP_filter_add (List.range 64) (rowSent s.ops) (notYetWritten s)
  rw [List.countP_filter, List.countP_filter] at hsplit
  rw [hleft, sentCount, hsplit]

theorem rowsLeft_eq_zero_iff {s : State} {l : Nat} : rowsLeft s l = 0 ↔ ∀ r < 64, swathDiffers s l r = false := by
  simp [rowsLeft, List.countP_eq_zero]

/-- A fresh diff transmits the rows that differ (`41_diff_engine.md` R143). -/
theorem sentCount_diffSwath (s : State) (l : Nat) : sentCount (s.diffSwath l) = rowsLeft s l :=
  congrArg (fun p => (List.range 64).countP p) (funext (rowSent_diffSwath s l))

theorem rowsLeft_of_planes {s t : State} (h : t.planes = s.planes) (l : Nat) : rowsLeft t l = rowsLeft s l :=
  congrArg (fun p => (List.range 64).countP p) (funext (swathDiffers_of_planes h l))

/-- A transmission in progress: its masks cover the rows still to send, and up to BUS_SELCOL no row has been reached. -/
structure Transmission (s : State) : Prop where
  sends : SendsTheRest s
  unreached : s.flushPhase = .busCmd ∨ s.flushPhase = .busSelCol → s.flushRow = 0#7

/-- Past BUS_CMD the rows below FLUSH_ROW have been written. -/
theorem Transmission.written_of_lt {s : State} (h : Transmission s) (hp : pastBusCmd s.flushPhase = true) {r : Nat}
    (hr : r < s.flushRow.toNat) : notYetWritten s r = false := by
  have hunreached := h.unreached
  unfold notYetWritten
  cases hphase : s.flushPhase with
  | diff | busCmd => rw [hphase] at hp; exact absurd hp nofun
  | busSelCol =>
    rw [hunreached (.inr hphase)] at hr
    exact absurd hr (Nat.not_lt_zero r)
  | busEnd => rfl
  | _ => exact decide_eq_false (Nat.not_le_of_lt hr)

/-- A row written is a row less to send (`70_reset_and_hazards.md` R300). -/
theorem Transmission.rowsLeft_lt_sentCount {s : State} (h : Transmission s) (hp : pastBusCmd s.flushPhase = true)
    (hrow : rowWritten s = true) : rowsLeft s s.opsLeft.toNat < sentCount s.ops := by
  simp only [rowWritten, List.any_eq_true, Bool.and_eq_true, decide_eq_true_eq] at hrow
  obtain ⟨r, hr, hsent, hlt⟩ := hrow
  have hwritten : 0 < (List.range 64).countP fun q => rowSent s.ops q && !notYetWritten s q := by
    refine List.countP_pos_iff.2 ⟨r, hr, ?_⟩
    rw [← rowAny_eq_rowSent, hsent, h.written_of_lt hp hlt]
    rfl
  have hsum := h.sends.rowsLeft_add_written
  omega

/-! ### A turn of the RENDER agent in the flush -/

/-- Of the flush's steps ROW_WR's alone writes pixels (`44_render_scheduler.md` R214). -/
theorem State.flushStep_planes (s : State) :
    s.flushStep.planes = s.planes ∨ (s.flushPhase = .rowWr ∧ s.flushStep = s.rowWrStep) := by
  obtain ⟨-, h⟩ | ⟨-, h⟩ | ⟨-, -, -, h⟩ | ⟨-, -, h⟩ | ⟨-, -, h⟩ | ⟨-, -, h⟩ | ⟨-, -, h⟩ | ⟨hp, -, h⟩ | ⟨-, -, h⟩ :=
    s.flushStep_cases
  case inl =>
    rw [h]
    unfold State.diffStep
    dsimp only
    split <;> exact .inl rfl
  case inr.inr.inr.inr.inr.inr.inr.inl => exact .inr ⟨hp, h⟩
  all_goals exact .inl (by rw [h]; rfl)

/-- No step of the flush makes a row of its swath differ that did not (`41_diff_engine.md` R137). -/
theorem FlushInv.rowsLeft_flushStep_le {s : State} (h : FlushInv s) :
    rowsLeft s.flushStep s.flushLeft ≤ rowsLeft s s.flushLeft := by
  refine List.countP_mono_left fun r _ hdiffers => ?_
  obtain hplanes | ⟨hp, he⟩ := s.flushStep_planes
  · rwa [swathDiffers_of_planes hplanes] at hdiffers
  · obtain ⟨hleft, -⟩ := h.opsSwath (by simp [hp])
    rw [he, ← hleft, swathDiffers_rowWrStep h.opsLeftEven, Bool.and_eq_true] at hdiffers
    exact hleft ▸ hdiffers.1

/-- A restart uses up the release that ABORT remembers, and no other step of the flush writes ABORT
(`44_render_scheduler.md` R208). -/
theorem State.restart_add_abort (s : State) :
    natOfBool (isRestart s .renderTurn) + natOfBool s.flushStep.abort = natOfBool s.abort := by
  obtain ⟨hp, h⟩ | ⟨hp, h⟩ | ⟨hd, hb, ha, h⟩ | ⟨-, ha, h⟩ | ⟨-, ha, h⟩ | ⟨-, ha, h⟩ | ⟨-, ha, h⟩ | ⟨-, ha, h⟩ |
    ⟨-, ha, h⟩ := s.flushStep_cases <;> rw [h]
  case inl =>
    have hkept : s.diffStep.abort = s.abort := by
      unfold State.diffStep
      dsimp only
      split <;> rfl
    simp [isRestart, hp, hkept, natOfBool]
  case inr.inl =>
    have hrestart : isRestart s .renderTurn = false := by simp [isRestart, hp]
    rw [hrestart]
    exact Nat.zero_add _
  case inr.inr.inl => simp [isRestart, hd, hb, ha, natOfBool]
  all_goals
    have hrestart : isRestart s .renderTurn = false := by simp [isRestart, ha]
    rw [hrestart]
    exact Nat.zero_add _

/-- A step of the flush that ends it leaves no row differing: the swath was blank, or END follows the last row
(`44_render_scheduler.md` R207, R215). -/
theorem FlushInv.rowsLeft_of_flush_ends {s : State} (h : FlushInv s) (hst : s.schedState = .swathFlush)
    (htrans : s.flushPhase ≠ .diff → Transmission s) (hend : s.flushStep.schedState ≠ .swathFlush) :
    rowsLeft s.flushStep s.flushLeft = 0 := by
  refine rowsLeft_eq_zero_iff.2 fun r hr => ?_
  obtain ⟨-, he⟩ | ⟨-, he⟩ | ⟨-, -, -, he⟩ | ⟨-, -, he⟩ | ⟨-, -, he⟩ | ⟨-, -, he⟩ | ⟨-, -, he⟩ | ⟨-, -, he⟩ |
    ⟨hp, -, he⟩ := s.flushStep_cases <;> rw [he] at hend ⊢
  case inl =>
    by_cases hblank : isBlank (s.diffSwath s.flushLeft) = true
    · have hsilent := (isBlank_iff _).1 hblank r hr
      rw [rowAny_eq_rowSent, rowSent_diffSwath] at hsilent
      rw [State.diffStep_of_blank hblank]
      exact (swathDiffers_of_planes rfl _ r).trans hsilent
    · rw [State.diffStep_of_not_blank hblank] at hend
      exact absurd hst hend
  case inr.inr.inr.inr.inr.inr.inr.inr =>
    have hp' : s.flushPhase ≠ .diff := by simp [hp]
    obtain ⟨hleft, -⟩ := h.opsSwath hp'
    have hsends := (htrans hp').sends r hr
    rw [notYetWritten, hp, Bool.and_false, hleft] at hsends
    exact (swathDiffers_of_planes rfl _ r).trans hsends
  all_goals exact absurd hst hend

/-- A step of the flush that goes on with a transmission: DiffStep has begun it with the rows that differ, or its masks
and ABORT are those of the step before (`44_render_scheduler.md` R207 to R214). -/
theorem State.flushStep_transmits {s : State} (hp : s.flushStep.flushPhase ≠ .diff) :
    (s.flushPhase = .diff ∧ s.flushStep.ops = s.diffSwath s.flushLeft) ∨
      (s.flushPhase ≠ .diff ∧ s.flushStep.ops = s.ops ∧ s.flushStep.abort = s.abort) := by
  obtain ⟨hd, h⟩ | ⟨hd, h⟩ | ⟨-, -, -, h⟩ | ⟨hd, -, h⟩ | ⟨hd, -, h⟩ | ⟨hd, -, h⟩ | ⟨hd, -, h⟩ | ⟨hd, -, h⟩ |
    ⟨-, -, h⟩ := s.flushStep_cases <;> rw [h] at hp ⊢
  case inl => exact .inl ⟨hd, s.diffStep_ops.1⟩
  case inr.inr.inl => exact absurd rfl hp
  case inr.inr.inr.inr.inr.inr.inr.inr => exact absurd rfl hp
  all_goals exact .inr ⟨by simp [hd], rfl, rfl⟩

/-- Going to the next transmitted row, no phase up to BUS_SELCOL follows. -/
theorem Transmission.toRow {s : State} {r : Nat}
    (h : ∀ q < 64, swathDiffers s s.opsLeft.toNat q = (rowSent s.ops q && decide (r ≤ q))) :
    Transmission (s.toRow r) where
  sends := .toRow h
  unreached hp := by
    obtain ⟨-, ⟨-, -, -, hnext⟩ | ⟨-, hnext⟩⟩ := s.toRow_spec r <;> rw [hnext] at hp <;> exact absurd hp (by simp)

theorem Transmission.busSelColStep {s : State} (h : Transmission s) (hp : s.flushPhase = .busSelCol) :
    Transmission s.busSelColStep := by
  refine .toRow fun q hq => ?_
  have hsends := h.sends q hq
  rw [notYetWritten, hp] at hsends
  exact (swathDiffers_of_planes rfl _ q).trans hsends

theorem Transmission.rowWrStep {s : State} (h : Transmission s) (hflush : FlushInv s) (hp : s.flushPhase = .rowWr) :
    Transmission s.rowWrStep := by
  refine .toRow fun q hq => (swathDiffers_rowWrStep hflush.opsLeftEven q).trans ?_
  have hsends := h.sends q hq
  rw [notYetWritten, hp] at hsends
  change (swathDiffers s s.opsLeft.toNat q && decide (q ≠ s.flushRow.toNat)) =
    (rowSent s.ops q && decide (s.flushRow.toNat + 1 ≤ q))
  rw [hsends, Bool.and_assoc, ← Bool.decide_and]
  congr 2
  rw [eq_iff_iff]
  omega

theorem notYetWritten_of_rowPhase {s : State} (hp : rowPhase s.flushPhase = true) (r : Nat) :
    notYetWritten s r = decide (s.flushRow.toNat ≤ r) := by
  unfold notYetWritten
  cases hphase : s.flushPhase with
  | diff | busCmd | busSelCol | busEnd => rw [hphase] at hp; exact absurd hp nofun
  | _ => rfl

/-- A row's step to the next of its phases reaches and writes none. -/
theorem Transmission.rowPhaseStep {s : State} (h : Transmission s) (hp : rowPhase s.flushPhase = true) (ev : BusEvent)
    {p : FlushPhase} (hp' : rowPhase p = true) : Transmission { s.emit ev with flushPhase := p } where
  sends := h.sends.congr rfl rfl rfl fun r => by
    rw [notYetWritten_of_rowPhase hp]
    exact notYetWritten_of_rowPhase (s := { s.emit ev with flushPhase := p }) hp' r
  unreached hnext := by
    obtain rfl | rfl : p = .busCmd ∨ p = .busSelCol := hnext <;> exact absurd hp' nofun

/-- Every step of the flush that goes on with a transmission, or begins one, leaves its masks to cover the rows still to
send (`44_render_scheduler.md` R207 to R214). -/
theorem Transmission.flushStep {s : State} (hsched : SchedInv s) (hflush : FlushInv s)
    (hst : s.schedState = .swathFlush) (h : s.flushPhase ≠ .diff → Transmission s)
    (hnext : s.flushStep.flushPhase ≠ .diff) : Transmission s.flushStep := by
  obtain ⟨hleft, -⟩ := (hflush.flushStep hsched hst).opsSwath hnext
  obtain ⟨hp, he⟩ | ⟨hp, he⟩ | ⟨-, -, -, he⟩ | ⟨hp, -, he⟩ | ⟨hp, -, he⟩ | ⟨hp, -, he⟩ | ⟨hp, -, he⟩ | ⟨hp, -, he⟩ |
    ⟨-, -, he⟩ := s.flushStep_cases <;> rw [he] at hnext hleft ⊢
  · have hblank : ¬ isBlank (s.diffSwath s.flushLeft) = true := fun hblank => by
      rw [State.diffStep_of_blank hblank] at hnext
      exact hnext rfl
    rw [State.diffStep_of_not_blank hblank] at hleft ⊢
    refine ⟨fun r _ => ?_, fun _ => rfl⟩
    rw [hleft]
    exact ((swathDiffers_of_planes rfl _ r).trans (rowSent_diffSwath s s.flushLeft r).symm).trans (Bool.and_true _).symm
  · obtain ⟨hsends, hunreached⟩ := h (by simp [hp])
    exact ⟨hsends.congr rfl rfl rfl fun r => by rw [notYetWritten, notYetWritten, hp]; rfl,
      fun _ => hunreached (.inl hp)⟩
  · exact absurd rfl hnext
  · exact (h (by simp [hp])).busSelColStep hp
  · exact (h (by simp [hp])).rowPhaseStep (by rw [hp]; rfl) .cmd rfl
  · exact (h (by simp [hp])).rowPhaseStep (by rw [hp]; rfl) (selSingleRow s.flushRow.toNat) rfl
  · exact (h (by simp [hp])).rowPhaseStep (by rw [hp]; rfl) .data rfl
  · exact (h (by simp [hp])).rowWrStep hflush hp
  · exact absurd rfl hnext

/-! ### A command while the flush goes on -/

/-- The configuration, the micro-state, the buffers and the masks are as they were. -/
structure SameSwath (s t : State) : Prop where
  cfg : t.cfg = s.cfg
  regs : t.renderRegs = s.renderRegs
  planes : t.planes = s.planes
  ops : t.ops = s.ops
  opsLeft : t.opsLeft = s.opsLeft

/-- What a command can do to RIP and ABORT: nothing, or ACQ_SAMPLE's forced release (`44_render_scheduler.md` R219). -/
def BusFlagsAfter (e : PortEvent) (s t : State) : Prop :=
  (t.rip = s.rip ∧ t.abort = s.abort) ∨ (isAcquisition e = true ∧ t.rip = false ∧ t.abort = (s.abort || s.rip))

/-- While a tick runs the direct writers are shut out, and in the dual-timer configuration no command runs a tick, so
only ACQ_SAMPLE reaches the flush, through RIP and ABORT (`60_exceptions.md` R261, R268). -/
theorem runCommand_duringTick {cw : Word} {s t : State} (hd : s.cfg.schedMode = .dualTimer)
    (hact : s.renderActive = true) (h : runCommand cw s = .next t) :
    SameSwath s t ∧ BusFlagsAfter (.command cw) s t := by
  have hgated := writersGated_eq_true.2 (.inr hact)
  have huncounted : ¬ countsSamples s = true := fun hc =>
    absurd (hd.symm.trans (singleTimer_of_countsSamples hc)) nofun
  obtain ⟨i, hdecode, hr⟩ | ⟨e, -, hr⟩ := runCommand_cases cw s <;> rw [hr] at h
  · obtain heffect | ⟨k, rfl⟩ := exec_next_cases h
    · cases heffect with
      | plane i hopen | ringPush v hopen | diffSwath l hopen => exact absurd (hgated.symm.trans hopen) nofun
      | count v hc | tick v hc => exact absurd hc huncounted
      | acquire v =>
        rw [State.acquire_eq]
        exact ⟨⟨rfl, rfl, rfl, rfl, rfl⟩, .inr ⟨by simp [isAcquisition, hdecode], rfl, rfl⟩⟩
      | _ => exact ⟨⟨rfl, rfl, rfl, rfl, rfl⟩, .inl ⟨rfl, rfl⟩⟩
    · exact ⟨⟨rfl, rfl, rfl, rfl, rfl⟩, .inl ⟨rfl, rfl⟩⟩
  · cases h
    exact ⟨⟨rfl, rfl, rfl, rfl, rfl⟩, .inl ⟨rfl, rfl⟩⟩

/-- A command leaves one of RIP and ABORT set if one was, and never both. -/
theorem BusFlagsAfter.agree {e : PortEvent} {s t : State} (h : BusFlagsAfter e s t)
    (hboth : (s.rip && s.abort) = false) : (t.rip || t.abort) = (s.rip || s.abort) ∧ (t.rip && t.abort) = false := by
  obtain ⟨hrip, ha⟩ | ⟨-, hrip, ha⟩ := h <;> rw [hrip, ha]
  · exact ⟨rfl, hboth⟩
  · exact ⟨by rw [Bool.false_or, Bool.or_comm], rfl⟩

theorem Transmission.of_sameSwath {s t : State} (h : Transmission s) (hsame : SameSwath s t) : Transmission t := by
  obtain ⟨-, -, -, hphase, hrow, -⟩ := State.renderRegs_eq_iff.1 hsame.regs
  refine ⟨h.sends.congr hsame.planes hsame.ops hsame.opsLeft fun r => ?_, fun hp => ?_⟩
  · rw [notYetWritten, hphase, hrow, notYetWritten]
  · rw [hrow]
    exact h.unreached (hphase ▸ hp)

/-! ### The account of rows and restarts -/

/-- A state of the flush of the swath with left column `l`, after `r` restarts: the releases so far, of which ABORT
remembers the last until the flush restarts, and the rows that differ are no more than `R`, and so are the restarts and
the rows of the transmission in progress. -/
structure SwathAccount (l R r : Nat) (s : State) : Prop where
  dual : s.cfg.schedMode = .dualTimer
  sched : SchedInv s
  flush : FlushInv s
  flushing : s.schedState = .swathFlush
  left : s.flushLeft = l
  transmission : s.flushPhase ≠ .diff → Transmission s
  paid : r + natOfBool s.abort + rowsLeft s l ≤ R
  covered : s.flushPhase ≠ .diff → s.abort = false → r + sentCount s.ops ≤ R

theorem SwathAccount.active {l R r : Nat} {s : State} (h : SwathAccount l R r s) : s.renderActive = true :=
  h.sched.active (by simp [h.flushing]) (by simp [h.flushing])

theorem SwathAccount.renderTurn_eq {l R r : Nat} {s : State} (h : SwathAccount l R r s) :
    renderTurn s = .next s.flushStep := by
  rw [renderTurn_of_active h.dual h.active (by simp [h.flushing]), State.renderStep_of_swathFlush h.active h.flushing]

theorem SwathAccount.renderEnabled {l R r : Nat} {s : State} (h : SwathAccount l R r s) : s.renderEnabled = true := by
  simp [State.renderEnabled, h.dual, h.active]

/-- A flush not yet compared is accounted for by the rows that differ. -/
theorem SwathAccount.of_diff {s : State} (hd : s.cfg.schedMode = .dualTimer) (hsched : SchedInv s) (hflush : FlushInv s)
    (hst : s.schedState = .swathFlush) (hp : s.flushPhase = .diff) :
    SwathAccount s.flushLeft (rowsLeft s s.flushLeft) 0 s := by
  obtain ⟨-, ha⟩ := hflush.busFree (by rw [hp]; rfl)
  refine ⟨hd, hsched, hflush, hst, rfl, fun hne => absurd hp hne, ?_, fun hne => absurd hp hne⟩
  rw [ha]
  exact Nat.le_of_eq (Nat.zero_add _)

/-- The turn that keeps or ends the flush keeps what is paid. -/
theorem SwathAccount.paid_flushStep {l R r : Nat} {s : State} (h : SwathAccount l R r s) :
    r + natOfBool (isRestart s .renderTurn) + natOfBool s.flushStep.abort + rowsLeft s.flushStep l ≤ R := by
  have hpaid := h.paid
  have hreleases := s.restart_add_abort
  have hrows := h.flush.rowsLeft_flushStep_le
  rw [h.left] at hrows
  omega

/-- DiffStep sends the rows that differ, and a transmission that goes on has the masks it had. -/
theorem SwathAccount.covered_flushStep {l R r : Nat} {s : State} (h : SwathAccount l R r s)
    (hp : s.flushStep.flushPhase ≠ .diff) (ha : s.flushStep.abort = false) :
    r + natOfBool (isRestart s .renderTurn) + sentCount s.flushStep.ops ≤ R := by
  have hreleases := s.restart_add_abort
  obtain ⟨-, hops⟩ | ⟨hdiff, hops, habort⟩ := State.flushStep_transmits hp
  · have hrows : sentCount s.flushStep.ops = rowsLeft s l := by
      rw [hops, h.left, sentCount_diffSwath]
    have hpaid := h.paid
    omega
  · have hcovered := h.covered hdiff (habort ▸ ha)
    rw [habort] at hreleases
    rw [hops]
    omega

theorem SwathAccount.flushStep {l R r : Nat} {s : State} (h : SwathAccount l R r s)
    (hstay : s.flushStep.schedState = .swathFlush) :
    SwathAccount l R (r + natOfBool (isRestart s .renderTurn)) s.flushStep where
  dual := by
    rw [show s.flushStep.cfg = s.cfg from congrArg HostRegs.cfg s.flushStep_hostRegs]
    exact h.dual
  sched := h.sched.flushStep h.flushing
  flush := h.flush.flushStep h.sched h.flushing
  flushing := hstay
  left := by
    rw [State.flushLeft, s.flushStep_frame.1]
    exact h.left
  transmission := .flushStep h.sched h.flush h.flushing h.transmission
  paid := h.paid_flushStep
  covered := h.covered_flushStep

/-- A release comes after a row was written, so the rows of its transmission pay for it too. -/
theorem SwathAccount.paid_release {l R r : Nat} {s : State} (h : SwathAccount l R r s) (hrip : s.rip = true)
    (hrow : rowWritten s = true) : r + 1 + rowsLeft s l ≤ R := by
  have hflags := h.flush.ripOrAbort
  have hboth := h.flush.notBoth
  rw [hrip] at hflags hboth
  have hp := ne_diff_of_pastBusCmd hflags.symm
  obtain ⟨hleft, -⟩ := h.flush.opsSwath hp
  have hcovered := h.covered hp hboth
  have hlt := (h.transmission hp).rowsLeft_lt_sentCount hflags.symm hrow
  rw [hleft, h.left] at hlt
  omega

theorem SwathAccount.of_sameSwath {l R r : Nat} {s t : State} {e : PortEvent} (h : SwathAccount l R r s)
    (hsame : SameSwath s t) (hflags : BusFlagsAfter e s t)
    (hrelease : isAcquisition e = true → s.rip = true → rowWritten s = true) : SwathAccount l R r t := by
  obtain ⟨hst, hcol, -, hphase, -⟩ := State.renderRegs_eq_iff.1 hsame.regs
  obtain ⟨hagree, hboth⟩ := hflags.agree h.flush.notBoth
  refine ⟨hsame.cfg ▸ h.dual, h.sched.of_renderRegs hsame.cfg hsame.regs,
    h.flush.of_renderRegs hsame.regs hsame.ops hsame.opsLeft hagree hboth, hst.trans h.flushing, ?left,
    fun hp => (h.transmission (hphase ▸ hp)).of_sameSwath hsame, ?paid, fun hp ha => ?covered⟩
  case left =>
    rw [State.flushLeft, hcol]
    exact h.left
  case paid =>
    rw [rowsLeft_of_planes hsame.planes]
    obtain ⟨-, ha⟩ | ⟨hacq, -, ha⟩ := hflags <;> rw [ha]
    · exact h.paid
    · cases hrip : s.rip with
      | false =>
        rw [Bool.or_false]
        exact h.paid
      | true =>
        rw [Bool.or_true]
        exact h.paid_release hrip (hrelease hacq hrip)
  case covered =>
    rw [hsame.ops]
    refine h.covered (hphase ▸ hp) ?_
    obtain ⟨-, ha'⟩ | ⟨-, -, ha'⟩ := hflags <;> rw [ha] at ha'
    · exact ha'.symm
    · exact (Bool.or_eq_false_iff.1 ha'.symm).1

/-- The swath has been flushed: every row agrees, with the restarts paid for. -/
structure SwathDone (l R r : Nat) (s : State) : Prop where
  ended : s.schedState ≠ .swathFlush
  agrees : rowsLeft s l = 0
  paid : r ≤ R

/-- An event but reset keeps the account, or it is the turn that ends the flush (`70_reset_and_hazards.md` R300). -/
theorem SwathAccount.next {l R r : Nat} {s t : State} {e : PortEvent} (h : SwathAccount l R r s)
    (he : runEvent e s = .next t) (hreset : e ≠ .reset)
    (hrelease : isAcquisition e = true → s.rip = true → rowWritten s = true) :
    SwathAccount l R (r + natOfBool (isRestart s e)) t ∨ SwathDone l R (r + natOfBool (isRestart s e)) t := by
  cases e with
  | reset => exact absurd rfl hreset
  | command cw =>
    obtain ⟨hsame, hflags⟩ := runCommand_duringTick h.dual h.active he
    exact .inl (h.of_sameSwath hsame hflags hrelease)
  | renderTurn =>
    cases h.renderTurn_eq.symm.trans he
    by_cases hstay : s.flushStep.schedState = .swathFlush
    · exact .inl (h.flushStep hstay)
    · have hpaid := h.paid_flushStep
      exact .inr ⟨hstay, h.left ▸ h.flush.rowsLeft_of_flush_ends h.flushing h.transmission hstay, by omega⟩

/-! ### The flush ends -/

/-- A bound on the RENDER agent's turns left to the flush: those of the transmission in progress, and a whole
transmission for each restart that can still be paid for. -/
def swathRank (R r : Nat) (s : State) : Nat := flushRank s.flushPhase s.flushRow.toNat + 265 * (R - r)

/-- No command moves the flush, whether it releases the bus or not. -/
theorem swathRank_of_sameSwath {s t : State} (h : SameSwath s t) (R r : Nat) : swathRank R r t = swathRank R r s := by
  obtain ⟨-, -, -, hphase, hrow, -⟩ := State.renderRegs_eq_iff.1 h.regs
  rw [swathRank, hphase, hrow, swathRank]

/-- A tick's bound in the flush of a swath: the flush's own, the budget's, and one transmission more for a release
remembered. -/
theorem tickRank_of_swathFlush {s : State} (hst : s.schedState = .swathFlush) :
    tickRank s = 1 + flushRank s.flushPhase s.flushRow.toNat + 265 * s.tickLeft.toNat + 265 * natOfBool s.abort := by
  rw [tickRank, hst, schedRank]
  cases s.abort <;> rfl

/-- A turn that keeps the flush going brings it nearer its end: a restart costs a transmission, which one restart less
to come pays for. -/
theorem SwathAccount.swathRank_flushStep_lt {l R r : Nat} {s : State} (h : SwathAccount l R r s)
    (hstay : s.flushStep.schedState = .swathFlush) :
    swathRank R (r + natOfBool (isRestart s .renderTurn)) s.flushStep < swathRank R r s := by
  obtain ⟨-, hrank⟩ := State.flushStep_tickRank h.flushing
  obtain ⟨-, hbudget, -⟩ := s.flushStep_frame
  have hreleases := s.restart_add_abort
  have hpaid := h.paid
  rw [tickRank_of_swathFlush hstay, tickRank_of_swathFlush h.flushing, hbudget] at hrank
  unfold swathRank
  omega

/-- No event of a flush that goes on takes it further from its end, and a turn of the RENDER agent brings it nearer. -/
theorem SwathAccount.swathRank_next {l R r : Nat} {s t : State} {e : PortEvent} (h : SwathAccount l R r s)
    (he : runEvent e s = .next t) (hreset : e ≠ .reset) (hstay : t.schedState = .swathFlush) :
    swathRank R (r + natOfBool (isRestart s e)) t ≤ swathRank R r s ∧
      (e = .renderTurn → swathRank R (r + natOfBool (isRestart s e)) t < swathRank R r s) := by
  cases e with
  | reset => exact absurd rfl hreset
  | command cw =>
    obtain ⟨hsame, -⟩ := runCommand_duringTick h.dual h.active he
    exact ⟨Nat.le_of_eq (swathRank_of_sameSwath hsame R r), nofun⟩
  | renderTurn =>
    cases h.renderTurn_eq.symm.trans he
    exact ⟨(h.swathRank_flushStep_lt hstay).le, fun _ => h.swathRank_flushStep_lt hstay⟩

/-- What never grows and falls at every turn has turns no more from some point on. -/
theorem exists_forall_not_of_descent {rank : Nat → Nat} {turn : Nat → Prop} (hle : ∀ k, rank (k + 1) ≤ rank k)
    (hlt : ∀ k, turn k → rank (k + 1) < rank k) : ∃ n, ∀ m, n ≤ m → ¬ turn m := by
  refine ⟨Function.argmin rank, fun m hm hturn => Function.not_lt_argmin rank (m + 1) ?_⟩
  exact (hlt m hturn).trans_le (antitone_nat_of_succ_le hle hm)

theorem restartsBefore_succ (σ : Nat → State) (events : Nat → PortEvent) (m : Nat) :
    restartsBefore σ events (m + 1) = restartsBefore σ events m + natOfBool (isRestart (σ m) (events m)) := by
  rw [restartsBefore, List.range_succ, List.countP_append]
  cases h : isRestart (σ m) (events m) <;> simp [restartsBefore, natOfBool, h]

section
variable {σ : Nat → State} {events : Nat → PortEvent} {l R : Nat}

/-- The account is kept along a run for as long as the flush goes on. -/
theorem SwathAccount.along (start : SwathAccount l R 0 (σ 0)) (hrun : IsRun σ events)
    (hreset : ∀ n, events n ≠ .reset)
    (hrelease : ∀ n, isAcquisition (events n) = true → (σ n).rip = true → rowWritten (σ n) = true) :
    ∀ n, (∀ k ≤ n, (σ k).schedState = .swathFlush) → SwathAccount l R (restartsBefore σ events n) (σ n)
  | 0, _ => start
  | n + 1, hflushing => by
    have ih := start.along hrun hreset hrelease n fun k hk => hflushing k (Nat.le_succ_of_le hk)
    rw [restartsBefore_succ]
    obtain h | hdone := ih.next (hrun.next n) (hreset n) (hrelease n)
    · exact h
    · exact absurd (hflushing (n + 1) le_rfl) hdone.ended

/-- A fair run does not flush one swath for ever. -/
theorem SwathAccount.flush_ends (start : SwathAccount l R 0 (σ 0)) (hrun : IsFairRun σ events)
    (hreset : ∀ n, events n ≠ .reset)
    (hrelease : ∀ n, isAcquisition (events n) = true → (σ n).rip = true → rowWritten (σ n) = true) :
    ∃ m, (σ m).schedState ≠ .swathFlush := by
  by_contra hnone
  have hflushing : ∀ m, (σ m).schedState = .swathFlush := fun m => by_contra fun hm => hnone ⟨m, hm⟩
  have haccount := fun n => start.along hrun.1 hreset hrelease n fun k _ => hflushing k
  have hrank := fun n => (haccount n).swathRank_next (hrun.1.next n) (hreset n) (hflushing (n + 1))
  simp only [← restartsBefore_succ] at hrank
  obtain ⟨n, hn⟩ := exists_forall_not_of_descent (rank := fun n => swathRank R (restartsBefore σ events n) (σ n))
    (fun n => (hrank n).1) (fun n => (hrank n).2)
  obtain ⟨m, hm, hturn⟩ := hrun.2 n fun m _ => (haccount m).renderEnabled
  exact hn m hm hturn

end

/-- Settles O60: along the first stretch of flushing states the account is kept, and the event that ends it leaves no
row differing. -/
theorem fairRunsCompleteTheSwath : Obligations.FairRunsCompleteTheSwath := by
  intro σ events hrun hreset hd hsched hflush _ hst hp hrelease
  have start := SwathAccount.of_diff hd hsched hflush hst hp
  have hend := start.flush_ends hrun hreset hrelease
  have hbefore : ∀ k < Nat.find hend, (σ k).schedState = .swathFlush := fun k hk => not_not.1 (Nat.find_min hend hk)
  have haccount := fun n (hn : n < Nat.find hend) =>
    start.along hrun.1 hreset hrelease n fun k hk => hbefore k (Nat.lt_of_le_of_lt hk hn)
  obtain ⟨m, hm⟩ : ∃ m, Nat.find hend = m + 1 := by
    refine Nat.exists_eq_succ_of_ne_zero fun hzero => Nat.find_spec hend ?_
    rw [hzero]
    exact hst
  have hdone : SwathDone (σ 0).flushLeft (rowsLeft (σ 0) (σ 0).flushLeft) (restartsBefore σ events (m + 1))
      (σ (m + 1)) := by
    rw [restartsBefore_succ]
    obtain hgoes | hdone := (haccount m (by omega)).next (hrun.1.next m) (hreset m) (hrelease m)
    · exact absurd (hm ▸ hgoes.flushing) (Nat.find_spec hend)
    · exact hdone
  have hrows : rowsLeft (σ 0) (σ 0).flushLeft ≤ 64 := List.countP_le_length
  refine ⟨m + 1, fun k hk => hbefore k (hm ▸ hk), hdone.ended, hdone.agrees, hdone.paid.trans hrows, fun k hk => ?_⟩
  obtain rfl | hlt := hk.eq_or_lt
  · rw [hdone.agrees]
    exact hdone.paid
  · have hpaid := (haccount k (hm ▸ hlt)).paid
    omega

end Sys2Proof.Machine
end
